-- ==== Sys2Proof/Word.lean ====
section
/-! DEFINITION. The bit-vector types of the block (spec/00_scope.md R9, spec/20_memory.md R61). -/

namespace Sys2Proof

/-- A u8 (R9): a byte of a buffer, of the wire or of the host port. -/
abbrev Byte := BitVec 8

/-- A u16 (R9): a descriptor SIZE or a wire LENGTH_LE. -/
abbrev U16 := BitVec 16

/-- A u32 (R9): FLEN and TX_COUNT. -/
abbrev U32 := BitVec 32

/-- The 18-bit byte address of the host port (R61). -/
abbrev HostAddr := BitVec 18

end Sys2Proof
end

