-- ==== Sys2Proof/Config.lean ====
section
/-! DEFINITION. The one parameter of the block (spec/00_scope.md R6). -/

namespace Sys2Proof

/-- The instance parameter MAX_PAYLOAD with its legal range (R6, U1). It is OPEN in the spec: State holds a `Config`
that no step changes, so every statement about all states covers every instance (notes/assumptions/1.md). -/
structure Config where
  maxPayload : Nat
  legal : 5 ≤ maxPayload ∧ maxPayload ≤ 65531
  deriving DecidableEq, Repr

/-- MAX_FRAME = MAX_PAYLOAD + 5, the capacity of FBUF (R6). -/
def Config.maxFrame (c : Config) : Nat := c.maxPayload + 5

/-- The instance of the test vectors (spec/95_test_vectors.md). DESIGN CHOICE for `State.reset` only
(notes/assumptions/1.md). -/
def Config.vectors : Config := ⟨16, by decide⟩

end Sys2Proof
end

