-- ==== Sys2Proof/Machine/Bits.lean ====
section
/-! DEFINITION. Byte order and the frame layout: little-endian assembly (spec/00_scope.md R10), the constants of
R7 and the pure frame function of spec/41_frame_codec.md R120. -/

namespace Sys2Proof.Machine

/-- Byte k of a value, bits [8k+7:8k] (R10, R64). -/
def byteOf {w : Nat} (v : BitVec w) (k : Nat) : Byte := v.extractLsb' (8 * k) 8

/-- le16(lo, hi) = lo + 256*hi (R10). -/
def le16 (lo hi : Byte) : U16 := hi ++ lo

/-- le32(b0, b1, b2, b3) = b0 + 2^8*b1 + 2^16*b2 + 2^24*b3 (R10). -/
def le32 (b0 b1 b2 b3 : Byte) : U32 := le16 b2 b3 ++ le16 b0 b1

/-- A u16 with its byte k replaced (R64, R107). -/
def setByte16 (v : U16) (k : Nat) (b : Byte) : U16 :=
  match k with
  | 0 => le16 b (byteOf v 1)
  | _ => le16 (byteOf v 0) b

/-- A u32 with its byte k replaced (R64, R107). -/
def setByte32 (v : U32) (k : Nat) (b : Byte) : U32 :=
  match k with
  | 0 => le32 b (byteOf v 1) (byteOf v 2) (byteOf v 3)
  | 1 => le32 (byteOf v 0) b (byteOf v 2) (byteOf v 3)
  | 2 => le32 (byteOf v 0) (byteOf v 1) b (byteOf v 3)
  | _ => le32 (byteOf v 0) (byteOf v 1) (byteOf v 2) b

/-- START, the first byte of every frame (R7). -/
def startByte : Byte := 0x7E

/-- END, the last byte of every frame (R7). -/
def endByte : Byte := 0xE7

/-- OVERHEAD: a frame's length minus its payload's (R7). -/
def overhead : Nat := 5

/-- Frame(L, N, p) = [0x7E, L, N[7:0], N[15:8]] ++ p ++ [0xE7] (R80, R82, R120). -/
def frame (label : Byte) (size : U16) (payload : List Byte) : List Byte :=
  [startByte, label, byteOf size 0, byteOf size 1] ++ payload ++ [endByte]

end Sys2Proof.Machine
end

