-- ==== Sys2Proof/Syntax.lean ====
section
/-! DEFINITION. One constructor per row of spec/opcode_table.json (spec/30_encoding.md R92). -/

namespace Sys2Proof

/-- What an agent can present to the block: a bus-op word, a CMD byte, a message of the transport port, a catalog
frame. The rows' order is the table's. -/
inductive Instr where
  /-- RD8 (R101). DATA is 0 in a read's word (R89); the block does not use it (notes/assumptions/12.md). -/
  | rd8 (addr : HostAddr) (data : Byte)
  /-- WR8 (R102). -/
  | wr8 (addr : HostAddr) (v : Byte)
  /-- The CMD byte 0x01, ENCODE (R121). -/
  | cmdEncode
  /-- The CMD byte 0x02, DECODE (R123). -/
  | cmdDecode
  /-- The CMD byte 0x03, TRANSACT (R163). -/
  | cmdTransact
  /-- The reserved CMD byte 0x00 (R104). -/
  | cmdReserved00
  /-- The reserved CMD bytes 0x04..0x07 (R104). -/
  | cmdReserved04 (low : BitVec 2)
  /-- The reserved CMD bytes 0x08..0x0F (R104). -/
  | cmdReserved08 (low : BitVec 3)
  /-- The reserved CMD bytes 0x10..0x1F (R104). -/
  | cmdReserved10 (low : BitVec 4)
  /-- The reserved CMD bytes 0x20..0x3F (R104). -/
  | cmdReserved20 (low : BitVec 5)
  /-- The reserved CMD bytes 0x40..0x7F (R104). -/
  | cmdReserved40 (low : BitVec 6)
  /-- The reserved CMD bytes 0x80..0xFF (R104). -/
  | cmdReserved80 (low : BitVec 7)
  /-- TxReq(f), sent by the block (R160). -/
  | txReq (f : List Byte)
  /-- RxReq(n), sent by the block (R160). -/
  | rxReq (n : Nat)
  /-- WrCount(c), response to TxReq (R164). -/
  | wrCount (c : U32)
  /-- WrErr(e), response to TxReq (R164). -/
  | wrErr (e : Byte)
  /-- RdData(b), response to RxReq (R165). -/
  | rdData (b : List Byte)
  /-- RdErr(e), response to RxReq (R165). -/
  | rdErr (e : Byte)
  /-- The catalog frame GetParametersRequest (R141). -/
  | getParametersRequest (paramSize : U16)
  /-- The catalog frame GetParametersReply (R142). -/
  | getParametersReply (firmwareLsb firmwareMsb dmxBreak dmxMab dmxRate : Byte)
  /-- The catalog frame GetSerialNumberRequest (R143). -/
  | getSerialNumberRequest
  /-- The catalog frame GetSerialNumberReply (R144). -/
  | getSerialNumberReply (s0 s1 s2 s3 : Byte)
  deriving DecidableEq, Repr

end Sys2Proof
end

