-- ==== Sys2Proof/WellFormed.lean ====
section
/-! DEFINITION. Which instructions are words of the spec's encodings (spec/30_encoding.md R89,
spec/43_transaction.md R160). -/

namespace Sys2Proof

/-- A frame or read length that some instance allows: 5 ≤ n ≤ MAX_FRAME (R160), where the largest MAX_FRAME of any
instance is 65536 because MAX_PAYLOAD ≤ 65531 (R6). -/
def legalFrameLength (n : Nat) : Bool := decide (5 ≤ n ∧ n ≤ 65536)

/-- DATA is 0 in a read's word (R89); the lengths of TxReq, RxReq and RdData are those of R160. Every other operand is
legal at every value of its width (R85, R147, R161). -/
def Instr.wellFormed : Instr → Bool
  | .rd8 _ data => data == 0
  | .wr8 _ _ => true
  | .cmdEncode => true
  | .cmdDecode => true
  | .cmdTransact => true
  | .cmdReserved00 => true
  | .cmdReserved04 _ => true
  | .cmdReserved08 _ => true
  | .cmdReserved10 _ => true
  | .cmdReserved20 _ => true
  | .cmdReserved40 _ => true
  | .cmdReserved80 _ => true
  | .txReq f => legalFrameLength f.length
  | .rxReq n => legalFrameLength n
  | .wrCount _ => true
  | .wrErr _ => true
  | .rdData b => legalFrameLength b.length
  | .rdErr _ => true
  | .getParametersRequest _ => true
  | .getParametersReply _ _ _ _ _ => true
  | .getSerialNumberRequest => true
  | .getSerialNumberReply _ _ _ _ => true

end Sys2Proof
end

