-- ==== Sys2Proof/Decode.lean ====
section
/-! DEFINITION. The decoder, total on any bytes and rejecting by name, and the encoder. The CMD byte (spec/30_encoding.md
R86), the bus-op word (R89) and the catalog frames (spec/42_command_catalog.md R141 to R144) are the spec's; the byte
order of the bus-op word and the words of the transport messages are this model's (notes/assumptions/11.md). -/

namespace Sys2Proof

open Machine (byteOf le16 le32 frame startByte endByte)

/-- Why bytes are no word of the encodings. -/
inductive Reject where
  /-- no byte at all -/
  | empty
  /-- a bus-op word is 27 bits (R89): bits 31..27 are 0 -/
  | busOpHighBits
  /-- the first byte is neither START nor a message tag -/
  | unknownTag
  /-- a message's operand has another length -/
  | messageLength
  /-- bytes that begin with START and are no frame of the table -/
  | unknownFrame
  deriving DecidableEq, Repr

/-- The tag bytes of the transport messages. DESIGN CHOICE: the spec gives the messages no bits
(notes/assumptions/11.md). -/
def tagTxReq : Byte := 0xA0
def tagRxReq : Byte := 0xA1
def tagWrCount : Byte := 0xA2
def tagWrErr : Byte := 0xA3
def tagRdData : Byte := 0xA4
def tagRdErr : Byte := 0xA5

/-- A CMD byte, matched as a whole (R86). A reserved byte falls to the row with its highest set bit. -/
def decodeCmd (op : Byte) : Instr :=
  if op = 0x00 then .cmdReserved00
  else if op = 0x01 then .cmdEncode
  else if op = 0x02 then .cmdDecode
  else if op = 0x03 then .cmdTransact
  else if op.extractLsb' 7 1 = 1 then .cmdReserved80 (op.extractLsb' 0 7)
  else if op.extractLsb' 6 1 = 1 then .cmdReserved40 (op.extractLsb' 0 6)
  else if op.extractLsb' 5 1 = 1 then .cmdReserved20 (op.extractLsb' 0 5)
  else if op.extractLsb' 4 1 = 1 then .cmdReserved10 (op.extractLsb' 0 4)
  else if op.extractLsb' 3 1 = 1 then .cmdReserved08 (op.extractLsb' 0 3)
  else .cmdReserved04 (op.extractLsb' 0 2)

/-- A bus-op word: [26] W, [25:8] ADDR, [7:0] DATA (R89). -/
def decodeBusOp (w : U32) : Except Reject Instr :=
  if w.extractLsb' 27 5 ≠ 0 then .error .busOpHighBits
  else if w.extractLsb' 26 1 = 1 then .ok (.wr8 (w.extractLsb' 8 18) (w.extractLsb' 0 8))
  else .ok (.rd8 (w.extractLsb' 8 18) (w.extractLsb' 0 8))

/-- A catalog frame, the bytes after START (R141 to R144). -/
def decodeFrame : List Byte → Except Reject Instr
  | [l, n0, n1, p0, p1, e] =>
    if l = 0x03 ∧ n0 = 0x02 ∧ n1 = 0x00 ∧ e = endByte then .ok (.getParametersRequest (le16 p0 p1))
    else .error .unknownFrame
  | [l, n0, n1, a, b, c, d, r, e] =>
    if l = 0x03 ∧ n0 = 0x05 ∧ n1 = 0x00 ∧ e = endByte then .ok (.getParametersReply a b c d r)
    else .error .unknownFrame
  | [l, n0, n1, e] =>
    if l = 0x0A ∧ n0 = 0x00 ∧ n1 = 0x00 ∧ e = endByte then .ok .getSerialNumberRequest
    else .error .unknownFrame
  | [l, n0, n1, s0, s1, s2, s3, e] =>
    if l = 0x0A ∧ n0 = 0x04 ∧ n1 = 0x00 ∧ e = endByte then .ok (.getSerialNumberReply s0 s1 s2 s3)
    else .error .unknownFrame
  | _ => .error .unknownFrame

/-- One operand byte of a message. -/
def decodeByteOperand (mk : Byte → Instr) : List Byte → Except Reject Instr
  | [e] => .ok (mk e)
  | _ => .error .messageLength

/-- One four-byte little-endian operand of a message. -/
def decodeWordOperand (mk : U32 → Instr) : List Byte → Except Reject Instr
  | [b0, b1, b2, b3] => .ok (mk (le32 b0 b1 b2 b3))
  | _ => .error .messageLength

/-- A frame (first byte START) or a transport message (first byte its tag). -/
def decodeTagged (tag : Byte) (rest : List Byte) : Except Reject Instr :=
  if tag = startByte then decodeFrame rest
  else if tag = tagTxReq then .ok (.txReq rest)
  else if tag = tagRxReq then decodeWordOperand (fun n => .rxReq n.toNat) rest
  else if tag = tagWrCount then decodeWordOperand .wrCount rest
  else if tag = tagWrErr then decodeByteOperand .wrErr rest
  else if tag = tagRdData then .ok (.rdData rest)
  else if tag = tagRdErr then decodeByteOperand .rdErr rest
  else .error .unknownTag

/-- The decoder: one byte is a CMD byte, four bytes are a bus-op word (little-endian), anything else begins with START or
a message tag. -/
def decode : List Byte → Except Reject Instr
  | [] => .error .empty
  | [op] => .ok (decodeCmd op)
  | [b0, b1, b2, b3] => decodeBusOp (le32 b0 b1 b2 b3)
  | tag :: rest => decodeTagged tag rest

/-- The four little-endian bytes of a u32 (R10). -/
def bytesOf32 (v : U32) : List Byte := [byteOf v 0, byteOf v 1, byteOf v 2, byteOf v 3]

/-- word = W*2^26 + ADDR*2^8 + DATA (R89). -/
def busOpWord (w : BitVec 1) (addr : HostAddr) (data : Byte) : U32 := (0#5 ++ w) ++ (addr ++ data)

/-- The encoder, from the same encodings (R80, R86, R89, R141 to R144). -/
def encode : Instr → List Byte
  | .rd8 addr data => bytesOf32 (busOpWord 0 addr data)
  | .wr8 addr v => bytesOf32 (busOpWord 1 addr v)
  | .cmdEncode => [0x01]
  | .cmdDecode => [0x02]
  | .cmdTransact => [0x03]
  | .cmdReserved00 => [0x00]
  | .cmdReserved04 low => [0b000001#6 ++ low]
  | .cmdReserved08 low => [0b00001#5 ++ low]
  | .cmdReserved10 low => [0b0001#4 ++ low]
  | .cmdReserved20 low => [0b001#3 ++ low]
  | .cmdReserved40 low => [0b01#2 ++ low]
  | .cmdReserved80 low => [0b1#1 ++ low]
  | .txReq f => tagTxReq :: f
  | .rxReq n => tagRxReq :: bytesOf32 (BitVec.ofNat 32 n)
  | .wrCount c => tagWrCount :: bytesOf32 c
  | .wrErr e => [tagWrErr, e]
  | .rdData b => tagRdData :: b
  | .rdErr e => [tagRdErr, e]
  | .getParametersRequest p => frame 0x03 2 [byteOf p 0, byteOf p 1]
  | .getParametersReply a b c d r => frame 0x03 5 [a, b, c, d, r]
  | .getSerialNumberRequest => frame 0x0A 0 []
  | .getSerialNumberReply s0 s1 s2 s3 => frame 0x0A 4 [s0, s1, s2, s3]

/-- n little-endian bytes of a number, the first from its lowest bits. -/
def bytesOfNat : Nat → Nat → List Byte
  | 0, _ => []
  | n + 1, w => BitVec.ofNat 8 w :: bytesOfNat n (w / 256)

/-- The bytes of a word of nbits bits as spec/opcode_table.json numbers them. -/
def tableBytes (nbits w : Nat) : List Byte := bytesOfNat ((nbits + 7) / 8) w

/-- The instruction the decoder reads from a word of the opcode table. -/
def decodeTableWord (nbits w : Nat) : Option Instr :=
  match decode (tableBytes nbits w) with
  | .ok i => some i
  | .error _ => none

end Sys2Proof
end

