-- ==== Sys2Proof/Machine/State.lean ====
section
/-! DEFINITION. The block's complete state (spec/10_state.md R22) with its reset values (R40), and the model's own
input and output fields (notes/assumptions/4.md, notes/assumptions/13.md). -/

namespace Sys2Proof.Machine

/-- The result codes of RESULT (R25). Codes 7..15 are never produced (notes/assumptions/16.md). -/
inductive Result where
  | none
  | ok
  | lengthError
  | frameError
  | labelError
  | transportError
  | descError
  deriving DecidableEq, Repr

/-- The sequencing state of PHASE (R26). Codes 5..7 are never taken (notes/assumptions/16.md). -/
inductive Phase where
  | idle
  | enc
  | txw
  | rxw
  | dec
  deriving DecidableEq, Repr

/-- The operation latched in OPR at an accepted issue (R36). -/
inductive Op where
  | encode
  | decode
  | transact
  deriving DecidableEq, Repr

/-- The outstanding transport request, PEND (R36). -/
inductive Pend where
  | none
  | tx
  | rx
  deriving DecidableEq, Repr

/-- A request the CORE places on the transport port (R160). -/
inductive Request where
  | txReq (f : List Byte)
  | rxReq (n : Nat)
  deriving DecidableEq, Repr

/-- Byte storage: cells in rising address order, none equal to what an unlisted address reads as (`Memory.wf`,
`Memory.unwritten`). The addresses are indices of TXBUF or FBUF (R34, R35). -/
abbrev Memory := List Host.Cell

/-- The bytes a RESET event draws for the buffers, from index 0 on. A byte the list does not reach keeps its old value
(R200 "A warm reset may keep the old bytes"; notes/assumptions/3.md). -/
structure ResetDraw where
  txbuf : List Byte
  fbuf : List Byte
  deriving DecidableEq, Repr

/-- One turn of the interleaving (R12): bytes presented at a port, a CORE step, or the RESET event
(notes/assumptions/4.md). -/
inductive Turn where
  | word (bytes : List Byte)
  | core
  | reset (draw : ResetDraw)
  deriving DecidableEq, Repr

/-- The state. The fields from `busy` to `fbuf` are R22's table, in its order. -/
structure State where
  /-- the instance parameter MAX_PAYLOAD (R6), written by no step -/
  cfg : Config
  /-- STATUS.BUSY (R24) -/
  busy : Bool
  /-- STATUS.DONE (R24) -/
  done : Bool
  /-- STATUS.VALID (R24) -/
  valid : Bool
  /-- STATUS.REJ (R24) -/
  rej : Bool
  /-- STATUS.LENW (R24) -/
  lenw : Bool
  /-- RESULT (R25) -/
  result : Result
  /-- PHASE (R26) -/
  phase : Phase
  /-- TX_LABEL (R27) -/
  txLabel : Byte
  /-- TX_SIZE (R27) -/
  txSize : U16
  /-- RX_LABEL (R28) -/
  rxLabel : Byte
  /-- RX_SIZE (R28) -/
  rxSize : U16
  /-- FLEN (R29) -/
  flen : U32
  /-- TX_COUNT (R30) -/
  txCount : U32
  /-- TCAUSE (R31) -/
  tcause : Byte
  /-- TDIR (R31): false for the write, true for the read -/
  tdir : Bool
  /-- RX_LENFIELD (R32) -/
  rxLenField : U16
  /-- OPR, hidden (R36) -/
  opr : Option Op
  /-- PEND, hidden (R36) -/
  pend : Pend
  /-- TXBUF (R34) -/
  txbuf : Memory
  /-- FBUF (R35) -/
  fbuf : Memory
  /-- the model's own: the turns still to be taken, oldest first -/
  schedule : List Turn
  /-- the model's own: the bytes RD8 returned to the host, oldest first (R101) -/
  hostReads : List Byte
  /-- the model's own: the requests placed on the transport port, oldest first (R160) -/
  portSent : List Request
  deriving DecidableEq, Repr

/-- No step of the block faults: there is no trap and no bus error, and an error is a completion with a RESULT code
(R100, R180). -/
inductive Fault where
  deriving DecidableEq, Repr

/-- Why a step has no meaning. -/
inductive Refusal where
  /-- raised by exec's arm of an instruction without a meaning; every arm has one. Safe. -/
  | notModelled (mnemonic : String)
  /-- raised by step when the bytes presented are no word of the encodings (notes/assumptions/15.md). Safe. -/
  | undecodable (why : Reject)
  deriving DecidableEq, Repr

/-- The state after reset (R40): every register 0, RESULT NONE, PHASE IDLE, OPR and PEND none. DESIGN CHOICE:
MAX_PAYLOAD is the test vectors' 16 (notes/assumptions/1.md) and both buffers list nothing, so every byte reads
`Memory.unwritten` (notes/assumptions/2.md). -/
def State.reset : State where
  cfg := Config.vectors
  busy := false
  done := false
  valid := false
  rej := false
  lenw := false
  result := .none
  phase := .idle
  txLabel := 0
  txSize := 0
  rxLabel := 0
  rxSize := 0
  flen := 0
  txCount := 0
  tcause := 0
  tdir := false
  rxLenField := 0
  opr := none
  pend := .none
  txbuf := []
  fbuf := []
  schedule := []
  hostReads := []
  portSent := []

end Sys2Proof.Machine
end

