-- ==== Sys2Proof/Machine/Ops.lean ====
section
/-! DEFINITION. The named operations over memory and registers: byte storage, the completion primitive (spec/60_exceptions.md
R187, the block's form of taking an exception), the transport port's send (spec/43_transaction.md R160) and the RESET event
(spec/70_reset_and_hazards.md R200). -/

namespace Sys2Proof.Machine

/-- What an unlisted byte reads as. DESIGN CHOICE: the spec leaves buffer bytes after reset unspecified (R40); the test
vectors write 0xAA for them (notes/assumptions/2.md). -/
def Memory.unwritten : Byte := 0xAA

/-- The byte at an address. -/
def Memory.read : Memory → Nat → Byte
  | [], _ => Memory.unwritten
  | (b, w) :: t, a => if a = b then w else Memory.read t a

/-- A cell at the head, unless its value is what an unlisted address reads as. -/
def Memory.consCell (a : Nat) (v : Byte) (t : Memory) : Memory :=
  if v = Memory.unwritten then t else (a, v) :: t

/-- The memory with one byte written, in canonical form. -/
def Memory.write : Memory → Nat → Byte → Memory
  | [], a, v => Memory.consCell a v []
  | (b, w) :: t, a, v =>
    if a < b then Memory.consCell a v ((b, w) :: t)
    else if a = b then Memory.consCell a v t
    else (b, w) :: Memory.write t a v

/-- Every address listed is at least `lo`, the addresses rise strictly, and no cell holds `Memory.unwritten`. -/
def Memory.wfFrom : Nat → Memory → Bool
  | _, [] => true
  | lo, (a, v) :: t => lo ≤ a && v != Memory.unwritten && Memory.wfFrom (a + 1) t

/-- The canonical form of a memory. -/
def Memory.wf (m : Memory) : Bool := Memory.wfFrom 0 m

/-- Every address listed is below the buffer's capacity. -/
def Memory.within (cap : Nat) (m : Memory) : Bool := m.all fun c => c.1 < cap

/-- One byte stored in a buffer of `cap` bytes; outside its storage a write is ignored (R63). -/
def Memory.store (cap : Nat) (m : Memory) (a : Nat) (v : Byte) : Memory :=
  if a < cap then Memory.write m a v else m

/-- Consecutive bytes stored from address `a` on. -/
def Memory.storeList (cap : Nat) : Memory → Nat → List Byte → Memory
  | m, _, [] => m
  | m, a, v :: vs => Memory.storeList cap (Memory.store cap m a v) (a + 1) vs

/-- n consecutive bytes from address `a` on. -/
def Memory.readList (m : Memory) : Nat → Nat → List Byte
  | _, 0 => []
  | a, n + 1 => Memory.read m a :: Memory.readList m (a + 1) n

/-- A byte of a buffer as the host port reads it: 0x00 outside the storage (R63). -/
def Memory.readWithin (cap : Nat) (m : Memory) (a : Nat) : Byte :=
  if a < cap then Memory.read m a else 0

/-- TXBUF[i] <- v (R34). -/
def State.storeTx (s : State) (i : Nat) (v : Byte) : State :=
  { s with txbuf := Memory.store s.cfg.maxPayload s.txbuf i v }

/-- FBUF[i] <- v (R35). -/
def State.storeF (s : State) (i : Nat) (v : Byte) : State :=
  { s with fbuf := Memory.store s.cfg.maxFrame s.fbuf i v }

/-- FBUF[0 .. len bs] <- bs and FLEN <- len bs: a whole frame enters FBUF (R121, R165). -/
def State.loadFrame (s : State) (bs : List Byte) : State :=
  { s with fbuf := Memory.storeList s.cfg.maxFrame s.fbuf 0 bs, flen := BitVec.ofNat 32 bs.length }

/-- complete(code), the one way an operation ends and the block's form of taking an exception (R180, R187). There is no
return from it (R189). -/
def State.complete (s : State) (code : Result) : State :=
  { s with result := code, done := true, busy := false, phase := .idle, opr := none, pend := .none }

/-- send TxReq(f); PEND <- tx; PHASE <- TXW (R121, R160). -/
def State.sendTxReq (s : State) (f : List Byte) : State :=
  { s with portSent := s.portSent ++ [.txReq f], pend := .tx, phase := .txw }

/-- send RxReq(n); PEND <- rx; PHASE <- RXW (R160, R164). -/
def State.sendRxReq (s : State) (n : Nat) : State :=
  { s with portSent := s.portSent ++ [.rxReq n], pend := .rx, phase := .rxw }

/-- The RESET event: every register at its value of R40, an operation in progress ends without a result, PEND is
forgotten (R201), and the buffers hold the draw (R200, notes/assumptions/3.md). -/
def State.resetEvent (s : State) (d : ResetDraw) : State :=
  { State.reset with
    cfg := s.cfg
    txbuf := Memory.storeList s.cfg.maxPayload s.txbuf 0 d.txbuf
    fbuf := Memory.storeList s.cfg.maxFrame s.fbuf 0 d.fbuf
    schedule := s.schedule
    hostReads := s.hostReads
    portSent := s.portSent }

end Sys2Proof.Machine
end

