-- ==== Sys2Proof/Machine/Flags.lean ====
section
/-! DEFINITION. The flags and codes: STATUS (spec/10_state.md R24), the RESULT and PHASE codes (R25, R26), the rejection and
clearing of flags, and the decode check that decides a result (spec/41_frame_codec.md R122). -/

namespace Sys2Proof.Machine

/-- A flag as a bit. -/
def bit (b : Bool) : Byte := if b then 1 else 0

/-- STATUS as the host reads it: LENW<<4 | REJ<<3 | VALID<<2 | DONE<<1 | BUSY (R106). -/
def State.status (s : State) : Byte :=
  bit s.lenw <<< 4 ||| bit s.rej <<< 3 ||| bit s.valid <<< 2 ||| bit s.done <<< 1 ||| bit s.busy

/-- The code of a result (R25). -/
def Result.code : Result → BitVec 4
  | .none => 0
  | .ok => 1
  | .lengthError => 2
  | .frameError => 3
  | .labelError => 4
  | .transportError => 5
  | .descError => 6

/-- The code of a phase (R26). -/
def Phase.code : Phase → BitVec 3
  | .idle => 0
  | .enc => 1
  | .txw => 2
  | .rxw => 3
  | .dec => 4

/-- REJ <- 1 and nothing else (R104, R105). -/
def State.reject (s : State) : State := { s with rej := true }

/-- VALID <- 0 (R102, R107). -/
def State.closeAperture (s : State) : State := { s with valid := false }

/-- What an accepted issue clears (R103). -/
def State.clearResults (s : State) : State :=
  { s with
    rej := false, done := false, valid := false, lenw := false, result := .none
    txCount := 0, tcause := 0, tdir := false, rxLenField := 0 }

/-- Check(flen, L, N): length, then markers, then label; the first failing check decides (R122, R185). The length is
compared as exact naturals (R9), and bytes 2 and 3 take part in no check (R125). -/
def check (fbuf : Memory) (flen : Nat) (label : Byte) (size : Nat) : Result :=
  if flen ≠ size + overhead then .lengthError
  else if fbuf.read 0 ≠ startByte ∨ fbuf.read (flen - 1) ≠ endByte then .frameError
  else if fbuf.read 1 ≠ label then .labelError
  else .ok

/-- On OK: RX_LENFIELD <- le16(FBUF[2], FBUF[3]); LENW tells whether it differs from RX_SIZE; VALID <- 1 (R123, R125). -/
def State.validate (s : State) : State :=
  { s with
    rxLenField := le16 (s.fbuf.read 2) (s.fbuf.read 3)
    lenw := le16 (s.fbuf.read 2) (s.fbuf.read 3) != s.rxSize
    valid := true }

end Sys2Proof.Machine
end

