-- ==== Sys2Proof/Machine/Operands.lean ====
section
/-! DEFINITION. The operand forms: the host address map (spec/20_memory.md R62), the register map (spec/10_state.md R39,
spec/40_host_access.md R106, R107), the payload aperture (R108) and the read of one byte at any host address (R101). -/

namespace Sys2Proof.Machine

/-- The four regions of the host address space (R62). -/
inductive Region where
  | regs
  | txbuf
  | fbuf
  | rxpay
  deriving DecidableEq, Repr

/-- The region is addr[17:16] (R62). -/
def regionOf (a : HostAddr) : Region :=
  match (a.extractLsb' 16 2).toNat with
  | 0 => .regs
  | 1 => .txbuf
  | 2 => .fbuf
  | _ => .rxpay

/-- The offset is addr[15:0] (R62). -/
def offsetOf (a : HostAddr) : Nat := (a.extractLsb' 0 16).toNat

/-- Named host addresses (R90). -/
def addrCmd : HostAddr := 0x00000
def addrTxLabel : HostAddr := 0x00004
def addrTxSize : HostAddr := 0x00006
def addrRxLabel : HostAddr := 0x00008
def addrRxSize : HostAddr := 0x0000A
def addrFlen : HostAddr := 0x0000C
def addrTxbuf : HostAddr := 0x10000
def addrFbuf : HostAddr := 0x20000

/-- RegRead(o) (R106); reserved offsets and CMD read 0x00 (R23, R37). -/
def State.regRead (s : State) (o : Nat) : Byte :=
  match o with
  | 0x01 => s.status
  | 0x02 => s.result.code.setWidth 8
  | 0x03 => s.phase.code.setWidth 8
  | 0x04 => s.txLabel
  | 0x06 => byteOf s.txSize 0
  | 0x07 => byteOf s.txSize 1
  | 0x08 => s.rxLabel
  | 0x0A => byteOf s.rxSize 0
  | 0x0B => byteOf s.rxSize 1
  | 0x0C => byteOf s.flen 0
  | 0x0D => byteOf s.flen 1
  | 0x0E => byteOf s.flen 2
  | 0x0F => byteOf s.flen 3
  | 0x10 => byteOf s.txCount 0
  | 0x11 => byteOf s.txCount 1
  | 0x12 => byteOf s.txCount 2
  | 0x13 => byteOf s.txCount 3
  | 0x14 => s.tcause
  | 0x15 => bit s.tdir
  | 0x16 => byteOf s.rxLenField 0
  | 0x17 => byteOf s.rxLenField 1
  | 0x18 => byteOf (BitVec.ofNat 16 s.cfg.maxPayload) 0
  | 0x19 => byteOf (BitVec.ofNat 16 s.cfg.maxPayload) 1
  | _ => 0

/-- RegWrite(o, v) (R107), called with BUSY = 0 and o ≠ 0. A write to RX_LABEL, RX_SIZE or FLEN also clears VALID, the
same value or not; a write to a read-only or reserved register is ignored. -/
def State.regWrite (s : State) (o : Nat) (v : Byte) : State :=
  match o with
  | 0x04 => { s with txLabel := v }
  | 0x06 => { s with txSize := setByte16 s.txSize 0 v }
  | 0x07 => { s with txSize := setByte16 s.txSize 1 v }
  | 0x08 => { s with rxLabel := v }.closeAperture
  | 0x0A => { s with rxSize := setByte16 s.rxSize 0 v }.closeAperture
  | 0x0B => { s with rxSize := setByte16 s.rxSize 1 v }.closeAperture
  | 0x0C => { s with flen := setByte32 s.flen 0 v }.closeAperture
  | 0x0D => { s with flen := setByte32 s.flen 1 v }.closeAperture
  | 0x0E => { s with flen := setByte32 s.flen 2 v }.closeAperture
  | 0x0F => { s with flen := setByte32 s.flen 3 v }.closeAperture
  | _ => s

/-- ApRead(o): the payload of a validated frame, 0x00 otherwise (R108). -/
def State.apRead (s : State) (o : Nat) : Byte :=
  if s.valid = true ∧ o < s.rxSize.toNat then s.fbuf.read (4 + o) else 0

/-- RD8(addr): the byte at a host address; FBUF reads 0x00 while BUSY = 1 (R101). -/
def State.hostRead (s : State) (a : HostAddr) : Byte :=
  match regionOf a with
  | .regs => s.regRead (offsetOf a)
  | .txbuf => s.txbuf.readWithin s.cfg.maxPayload (offsetOf a)
  | .fbuf => if s.busy then 0 else s.fbuf.readWithin s.cfg.maxFrame (offsetOf a)
  | .rxpay => s.apRead (offsetOf a)

end Sys2Proof.Machine
end

