-- ==== Sys2Proof/Machine/Codec.lean ====
section
/-! DEFINITION. The CORE agent: EncStep (spec/41_frame_codec.md R121), DecStep (R123) and its turn (spec/00_scope.md R12). -/

namespace Sys2Proof.Machine

/-- The request frame: Frame(TX_LABEL, TX_SIZE, TXBUF[0 .. TX_SIZE]) (R120, R121). -/
def State.requestFrame (s : State) : List Byte :=
  frame s.txLabel s.txSize (s.txbuf.readList 0 s.txSize.toNat)

/-- EncStep, enabled when PHASE = ENC: the frame goes into FBUF, then ENCODE completes with OK and any other operation
(TRANSACT) sends it (R121, R163). -/
def State.encStep (s : State) : State :=
  if s.opr = some .encode then (s.loadFrame s.requestFrame).complete .ok
  else (s.loadFrame s.requestFrame).sendTxReq s.requestFrame

/-- The result DecStep completes with: Check(FLEN, RX_LABEL, RX_SIZE) (R122, R123). -/
def State.checkResult (s : State) : Result :=
  check s.fbuf s.flen.toNat s.rxLabel s.rxSize.toNat

/-- DecStep, enabled when PHASE = DEC, for DECODE and TRANSACT alike (R123, R166). -/
def State.decStep (s : State) : State :=
  if s.checkResult = .ok then s.validate.complete .ok else s.complete s.checkResult

/-- The CORE's turn: the step its PHASE enables, or nothing (R12, notes/assumptions/6.md). -/
def State.coreTurn (s : State) : State :=
  match s.phase with
  | .enc => s.encStep
  | .dec => s.decStep
  | .idle => s
  | .txw => s
  | .rxw => s

end Sys2Proof.Machine
end

