-- ==== Sys2Proof/Machine/Command.lean ====
section
/-! DEFINITION. Command issue (spec/40_host_access.md R103 to R105) and the ten CMD rows (spec/30_encoding.md R86). A CMD row is
the host's write of its byte to CMD; the work of an accepted one is done by later CORE and XPORT steps
(notes/assumptions/14.md). -/

namespace Sys2Proof.Machine

/-- The operation a CMD byte selects (R86). -/
def opOf (v : Byte) : Option Op :=
  if v = 0x01 then some .encode
  else if v = 0x02 then some .decode
  else if v = 0x03 then some .transact
  else none

/-- ENCODE and TRANSACT use the TX descriptor (R103). -/
def Op.needsTx : Op → Bool
  | .encode => true
  | .decode => false
  | .transact => true

/-- DECODE and TRANSACT use the RX descriptor (R103). -/
def Op.needsRx : Op → Bool
  | .encode => false
  | .decode => true
  | .transact => true

/-- A descriptor the operation uses has SIZE > MAX_PAYLOAD (R103). -/
def State.descTooLarge (s : State) (op : Op) : Bool :=
  (op.needsTx && decide (s.cfg.maxPayload < s.txSize.toNat)) ||
    (op.needsRx && decide (s.cfg.maxPayload < s.rxSize.toNat))

/-- The first phase of an accepted operation (R103). -/
def Op.firstPhase : Op → Phase
  | .encode => .enc
  | .decode => .dec
  | .transact => .enc

/-- CmdWrite of an operation with BUSY = 0: the accepted issue, or DESC_ERROR at once (R103). -/
def State.issue (s : State) (op : Op) : State :=
  if s.descTooLarge op then s.clearResults.complete .descError
  else { s.clearResults with opr := some op, busy := true, phase := op.firstPhase }

/-- CmdWrite(v): rejected while BUSY = 1 (R105) and for a reserved value (R104), an issue otherwise (R103). -/
def State.cmdWrite (s : State) (v : Byte) : State :=
  if s.busy then s.reject
  else
    match opOf v with
    | some op => s.issue op
    | none => s.reject

/-- ENCODE (R103, R121). -/
def execCmdEncode (s : State) : Host.Outcome State Fault Refusal := .next (s.cmdWrite 0x01)

/-- DECODE (R103, R123). -/
def execCmdDecode (s : State) : Host.Outcome State Fault Refusal := .next (s.cmdWrite 0x02)

/-- TRANSACT (R103, R163). -/
def execCmdTransact (s : State) : Host.Outcome State Fault Refusal := .next (s.cmdWrite 0x03)

/-- The reserved byte 0x00 (R104, R105). -/
def execCmdReserved00 (s : State) : Host.Outcome State Fault Refusal := .next (s.cmdWrite 0x00)

/-- The reserved bytes 0x04..0x07 (R104, R105). -/
def execCmdReserved04 (low : BitVec 2) (s : State) : Host.Outcome State Fault Refusal :=
  .next (s.cmdWrite (0b000001#6 ++ low))

/-- The reserved bytes 0x08..0x0F (R104, R105). -/
def execCmdReserved08 (low : BitVec 3) (s : State) : Host.Outcome State Fault Refusal :=
  .next (s.cmdWrite (0b00001#5 ++ low))

/-- The reserved bytes 0x10..0x1F (R104, R105). -/
def execCmdReserved10 (low : BitVec 4) (s : State) : Host.Outcome State Fault Refusal :=
  .next (s.cmdWrite (0b0001#4 ++ low))

/-- The reserved bytes 0x20..0x3F (R104, R105). -/
def execCmdReserved20 (low : BitVec 5) (s : State) : Host.Outcome State Fault Refusal :=
  .next (s.cmdWrite (0b001#3 ++ low))

/-- The reserved bytes 0x40..0x7F (R104, R105). -/
def execCmdReserved40 (low : BitVec 6) (s : State) : Host.Outcome State Fault Refusal :=
  .next (s.cmdWrite (0b01#2 ++ low))

/-- The reserved bytes 0x80..0xFF (R104, R105). -/
def execCmdReserved80 (low : BitVec 7) (s : State) : Host.Outcome State Fault Refusal :=
  .next (s.cmdWrite (0b1#1 ++ low))

end Sys2Proof.Machine
end

