-- ==== Sys2Proof/Machine/HostPort.lean ====
section
/-! DEFINITION. The host port: WR8(addr, v) with its region rules (spec/40_host_access.md R102), and the two bus-op rows. -/

namespace Sys2Proof.Machine

/-- A write with BUSY = 0 to an address other than CMD (R102): a register, a TXBUF byte, an FBUF byte (which clears VALID
even outside the storage), or nothing in the read-only aperture. -/
def State.idleWrite (s : State) (r : Region) (o : Nat) (v : Byte) : State :=
  match r with
  | .regs => s.regWrite o v
  | .txbuf => s.storeTx o v
  | .fbuf => (s.storeF o v).closeAperture
  | .rxpay => s

/-- WR8(addr, v): a CMD write is always taken to CmdWrite, every other write is dropped while BUSY = 1 (R102). -/
def State.hostWrite (s : State) (a : HostAddr) (v : Byte) : State :=
  if regionOf a = .regs ∧ offsetOf a = 0 then s.cmdWrite v
  else if s.busy then s
  else s.idleWrite (regionOf a) (offsetOf a) v

/-- The turn that presents the bus-op word of WR8(addr, v) (R89). -/
def writeTurn (w : HostAddr × Byte) : Turn := .word (encode (.wr8 w.1 w.2))

/-- Turns placed in front of the schedule. -/
def State.pushTurns (s : State) (ts : List Turn) : State := { s with schedule := ts ++ s.schedule }

/-- The host's program of WR8 writes, one HOST step each (R100): this step is the first of them, and the others are the
next turns (notes/assumptions/10.md). -/
def State.hostProgram (s : State) : List (HostAddr × Byte) → State
  | [] => s
  | w :: ws => (s.hostWrite w.1 w.2).pushTurns (ws.map writeTurn)

/-- RD8: the byte goes to the host and the block's state is not written (R68, R101). DATA is not used
(notes/assumptions/12.md). -/
def execRd8 (addr : HostAddr) (_data : Byte) (s : State) : Host.Outcome State Fault Refusal :=
  .next { s with hostReads := s.hostReads ++ [s.hostRead addr] }

/-- WR8 (R102). -/
def execWr8 (addr : HostAddr) (v : Byte) (s : State) : Host.Outcome State Fault Refusal :=
  .next (s.hostWrite addr v)

end Sys2Proof.Machine
end

