-- ==== Sys2Proof/Machine/Transport.lean ====
section
/-! DEFINITION. The transport port: the XPORT steps WriteResp and ReadResp (spec/43_transaction.md R164, R165), the dropping of a
response that answers nothing (R169), and the steps in which the block sends TxReq and RxReq (R121, R160, R163,
notes/assumptions/9.md). -/

namespace Sys2Proof.Machine

/-- A TxReq is outstanding (R164). -/
def State.awaitsWrite (s : State) : Bool := s.phase == .txw && s.pend == .tx

/-- An RxReq is outstanding (R165). -/
def State.awaitsRead (s : State) : Bool := s.phase == .rxw && s.pend == .rx

/-- The number of bytes of the reply frame, RX_SIZE + 5 (R81, R163). -/
def State.replyLength (s : State) : Nat := s.rxSize.toNat + overhead

/-- complete(TRANSPORT_ERROR) with TCAUSE = e and TDIR the failing direction (R164, R165, R181). -/
def State.failTransport (s : State) (e : Byte) (dir : Bool) : State :=
  { s with tcause := e, tdir := dir }.complete .transportError

/-- WriteResp on WrCount(c): TX_COUNT <- c; a count other than FLEN completes with LENGTH_ERROR and no read, the full
count sends RxReq(RX_SIZE + 5) (R164). -/
def State.writeCount (s : State) (c : U32) : State :=
  if c = s.flen then { s with txCount := c }.sendRxReq s.replyLength
  else { s with txCount := c }.complete .lengthError

/-- ReadResp on RdData(b): the bytes go into FBUF, FLEN is their number, PHASE is DEC (R165). -/
def State.readData (s : State) (b : List Byte) : State :=
  { s.loadFrame b with pend := .none, phase := .dec }

/-- TxReq(f): the CORE step that sends it, EncStep of a TRANSACT; a message the block does not send now changes nothing
(R121, R160, notes/assumptions/9.md). -/
def execTxReq (f : List Byte) (s : State) : Host.Outcome State Fault Refusal :=
  .next (if s.phase = .enc ∧ s.opr = some .transact ∧ f = s.requestFrame then s.encStep else s)

/-- RxReq(n): the step that sends it, the acceptance of a full write count; a message the block does not send now changes
nothing (R73, R160, R164, notes/assumptions/9.md). -/
def execRxReq (n : Nat) (s : State) : Host.Outcome State Fault Refusal :=
  .next (if s.awaitsWrite = true ∧ n = s.replyLength then s.writeCount s.flen else s)

/-- WrCount(c): WriteResp when a TxReq is outstanding (R164); otherwise dropped (R169). -/
def execWrCount (c : U32) (s : State) : Host.Outcome State Fault Refusal :=
  .next (if s.awaitsWrite then s.writeCount c else s)

/-- WrErr(e): WriteResp when a TxReq is outstanding (R164); otherwise dropped (R169). -/
def execWrErr (e : Byte) (s : State) : Host.Outcome State Fault Refusal :=
  .next (if s.awaitsWrite then s.failTransport e false else s)

/-- RdData(b): ReadResp when an RxReq(len b) is outstanding (R165). Bytes of another number answer no outstanding request
(R160) and are dropped like any response without a request (R169, notes/assumptions/7.md). -/
def execRdData (b : List Byte) (s : State) : Host.Outcome State Fault Refusal :=
  .next (if s.awaitsRead = true ∧ b.length = s.replyLength then s.readData b else s)

/-- RdErr(e): ReadResp when an RxReq is outstanding (R165); otherwise dropped (R169). -/
def execRdErr (e : Byte) (s : State) : Host.Outcome State Fault Refusal :=
  .next (if s.awaitsRead then s.failTransport e true else s)

end Sys2Proof.Machine
end

