-- ==== Sys2Proof/Machine/Catalog.lean ====
section
/-! DEFINITION. The four catalog frames (spec/42_command_catalog.md R140 to R144). The block holds no catalog; a frame's meaning is the
host programming its rule states, as WR8 writes of one HOST step each (spec/40_host_access.md R100): the row's own step is the
first write, and the others are the turns that follow it. A request type sets up ENCODE or TRANSACT, a reply type sets up
DECODE (spec/70_reset_and_hazards.md R203; notes/assumptions/10.md). -/

namespace Sys2Proof.Machine

/-- The writes of consecutive bytes from a host address on: wrbuf (R91). -/
def bufWrites : HostAddr → List Byte → List (HostAddr × Byte)
  | _, [] => []
  | a, b :: bs => (a, b) :: bufWrites (a + 1) bs

/-- Host programming of the request type (label, size) with payload p: TX_LABEL, TX_SIZE, TXBUF (R141, R203). -/
def requestWrites (label : Byte) (size : U16) (p : List Byte) : List (HostAddr × Byte) :=
  (addrTxLabel, label) :: bufWrites addrTxSize [byteOf size 0, byteOf size 1] ++ bufWrites addrTxbuf p

/-- Host programming of the reply type (label, size) with a received frame f: RX_LABEL, RX_SIZE, FBUF, FLEN
(R142, R203). -/
def replyWrites (label : Byte) (size : U16) (f : List Byte) : List (HostAddr × Byte) :=
  (addrRxLabel, label) :: bufWrites addrRxSize [byteOf size 0, byteOf size 1] ++
    bufWrites addrFbuf f ++ bufWrites addrFlen (bytesOf32 (BitVec.ofNat 32 f.length))

/-- GetParametersRequest: TX_LABEL = 0x03, TX_SIZE = 2, TXBUF[0..2] = param_size (R141). -/
def execGetParametersRequest (paramSize : U16) (s : State) : Host.Outcome State Fault Refusal :=
  .next (s.hostProgram (requestWrites 0x03 2 [byteOf paramSize 0, byteOf paramSize 1]))

/-- GetParametersReply: RX_LABEL = 0x03, RX_SIZE = 5, the frame in FBUF (R142). -/
def execGetParametersReply (firmwareLsb firmwareMsb dmxBreak dmxMab dmxRate : Byte) (s : State) :
    Host.Outcome State Fault Refusal :=
  .next (s.hostProgram (replyWrites 0x03 5 (frame 0x03 5 [firmwareLsb, firmwareMsb, dmxBreak, dmxMab, dmxRate])))

/-- GetSerialNumberRequest: TX_LABEL = 0x0A, TX_SIZE = 0 (R143). -/
def execGetSerialNumberRequest (s : State) : Host.Outcome State Fault Refusal :=
  .next (s.hostProgram (requestWrites 0x0A 0 []))

/-- GetSerialNumberReply: RX_LABEL = 0x0A, RX_SIZE = 4, the frame in FBUF (R144). -/
def execGetSerialNumberReply (s0 s1 s2 s3 : Byte) (s : State) : Host.Outcome State Fault Refusal :=
  .next (s.hostProgram (replyWrites 0x0A 4 (frame 0x0A 4 [s0, s1, s2, s3])))

end Sys2Proof.Machine
end

