-- ==== Sys2Proof/Machine/Fetch.lean ====
section
/-! DEFINITION. Taking the next turn of the schedule (spec/00_scope.md R12; notes/assumptions/4.md). -/

namespace Sys2Proof.Machine

/-- The turn the next step takes: the schedule's first, or the CORE's when the environment has nothing scheduled
(notes/assumptions/5.md). -/
def State.nextTurn (s : State) : Turn :=
  match s.schedule with
  | [] => .core
  | t :: _ => t

/-- The state with that turn taken off the schedule. -/
def State.popTurn (s : State) : State := { s with schedule := s.schedule.tail }

/-- The state with a word of the opcode table presented next. -/
def State.presentWord (s : State) (nbits w : Nat) : State :=
  { s with schedule := .word (tableBytes nbits w) :: s.schedule }

end Sys2Proof.Machine
end

