-- ==== Sys2Proof/Machine/Dispatch.lean ====
section
/-! DEFINITION. One arm per constructor of Instr, in the order of spec/opcode_table.json. -/

namespace Sys2Proof.Machine

def exec (i : Instr) (s : State) : Host.Outcome State Fault Refusal :=
  match i with
  | .rd8 addr data => Sys2Proof.Machine.execRd8 addr data s
  | .wr8 addr v => Sys2Proof.Machine.execWr8 addr v s
  | .cmdEncode => Sys2Proof.Machine.execCmdEncode s
  | .cmdDecode => Sys2Proof.Machine.execCmdDecode s
  | .cmdTransact => Sys2Proof.Machine.execCmdTransact s
  | .cmdReserved00 => Sys2Proof.Machine.execCmdReserved00 s
  | .cmdReserved04 low => Sys2Proof.Machine.execCmdReserved04 low s
  | .cmdReserved08 low => Sys2Proof.Machine.execCmdReserved08 low s
  | .cmdReserved10 low => Sys2Proof.Machine.execCmdReserved10 low s
  | .cmdReserved20 low => Sys2Proof.Machine.execCmdReserved20 low s
  | .cmdReserved40 low => Sys2Proof.Machine.execCmdReserved40 low s
  | .cmdReserved80 low => Sys2Proof.Machine.execCmdReserved80 low s
  | .txReq f => Sys2Proof.Machine.execTxReq f s
  | .rxReq n => Sys2Proof.Machine.execRxReq n s
  | .wrCount c => Sys2Proof.Machine.execWrCount c s
  | .wrErr e => Sys2Proof.Machine.execWrErr e s
  | .rdData b => Sys2Proof.Machine.execRdData b s
  | .rdErr e => Sys2Proof.Machine.execRdErr e s
  | .getParametersRequest p => Sys2Proof.Machine.execGetParametersRequest p s
  | .getParametersReply a b c d r => Sys2Proof.Machine.execGetParametersReply a b c d r s
  | .getSerialNumberRequest => Sys2Proof.Machine.execGetSerialNumberRequest s
  | .getSerialNumberReply s0 s1 s2 s3 => Sys2Proof.Machine.execGetSerialNumberReply s0 s1 s2 s3 s

end Sys2Proof.Machine
end

