-- ==== Sys2Proof/Machine/Step.lean ====
section
/-! DEFINITION. One step of the machine: the next turn of the interleaving, atomically (spec/00_scope.md R12,
spec/20_memory.md R67). -/

namespace Sys2Proof.Machine

/-- A word presented at a port runs the instruction it decodes to, a CORE turn the CORE's enabled step (R121, R123), a RESET
turn the RESET event (R200). -/
def step (s : State) : Host.Outcome State Fault Refusal :=
  match s.nextTurn with
  | .word bytes =>
    match decode bytes with
    | .ok i => exec i s.popTurn
    | .error why => .refused (.undecodable why)
  | .core => .next s.popTurn.coreTurn
  | .reset draw => .next (s.popTurn.resetEvent draw)

/-- The state in which the next step runs the instruction of a word of the opcode table: the word stands first in the
schedule (notes/assumptions/4.md). -/
def State.withFetchWord (s : State) (nbits w : Nat) : State := s.presentWord nbits w

end Sys2Proof.Machine
end

