-- ==== Sys2Proof/Safety.lean ====
section
/-! DEFINITION. What counts as a safe run: the invariants the spec states of the block's registers and buffers. Each part is
a decidable proposition; `State.Inv` holds them all. -/

namespace Sys2Proof.Machine

/-- Both buffers are in canonical form and hold no cell outside their storage (R34, R35). -/
abbrev State.MemoryInv (s : State) : Prop :=
  s.txbuf.wf = true ∧ Memory.within s.cfg.maxPayload s.txbuf = true ∧
    s.fbuf.wf = true ∧ Memory.within s.cfg.maxFrame s.fbuf = true

/-- PHASE, BUSY, OPR and PEND agree: PHASE = IDLE iff BUSY = 0 (R26), PEND = tx iff PHASE = TXW and PEND = rx iff
PHASE = RXW (R36), and only the phases of its own sequence hold an operation (R121, R123, R163). -/
abbrev State.SequenceInv (s : State) : Prop :=
  (s.busy = true ↔ s.phase ≠ .idle) ∧ (s.opr = none ↔ s.phase = .idle) ∧
    (s.pend = .tx ↔ s.phase = .txw) ∧ (s.pend = .rx ↔ s.phase = .rxw) ∧
    (s.phase = .enc → s.opr ≠ some .decode) ∧ (s.phase = .dec → s.opr ≠ some .encode) ∧
    (s.phase = .txw → s.opr = some .transact) ∧ (s.phase = .rxw → s.opr = some .transact)

/-- The descriptors an operation in progress uses fit the buffers (R103, R124). -/
abbrev State.DescriptorInv (s : State) : Prop :=
  (s.opr.all fun op => !s.descTooLarge op) = true

/-- FLEN during a TRANSACT: the request's length while the transport works on it (R164, R165), the reply's length when
the reply is checked (R166). -/
abbrev State.LengthInv (s : State) : Prop :=
  (s.phase = .txw → s.flen.toNat = s.txSize.toNat + overhead) ∧
    (s.phase = .rxw → s.flen.toNat = s.txSize.toNat + overhead) ∧
    (s.phase = .dec → s.opr = some .transact → s.flen.toNat = s.rxSize.toNat + overhead)

/-- BUSY = 1 implies DONE = 0 and VALID = 0; VALID = 1 implies DONE = 1 and RESULT = OK (R24); RESULT is NONE exactly
while no operation has completed (R25). -/
abbrev State.FlagInv (s : State) : Prop :=
  (s.busy = true → s.done = false ∧ s.valid = false) ∧ (s.valid = true → s.done = true ∧ s.result = .ok) ∧
    (s.done = true ↔ s.result ≠ .none)

/-- The result registers hold 0 unless the completion that writes them happened: TCAUSE and TDIR with TRANSPORT_ERROR
(R31), RX_LENFIELD and LENW with OK (R24, R32), TX_COUNT once the transport reported it (R30). -/
abbrev State.ResultInv (s : State) : Prop :=
  (s.result ≠ .transportError → s.tcause = 0 ∧ s.tdir = false) ∧
    (s.result ≠ .ok → s.rxLenField = 0 ∧ s.lenw = false) ∧
    (s.phase = .enc → s.txCount = 0) ∧ (s.phase = .txw → s.txCount = 0) ∧
    (s.opr = some .decode → s.txCount = 0) ∧ (s.phase = .rxw → s.txCount = s.flen)

/-- The validated-frame invariant (R126), with the length field captured from the frame (R125) and a payload that fits
FBUF (R124). -/
abbrev State.ValidatedInv (s : State) : Prop :=
  s.valid = true →
    s.busy = false ∧ s.result = .ok ∧ s.flen.toNat = s.rxSize.toNat + overhead ∧
      s.rxSize.toNat ≤ s.cfg.maxPayload ∧ s.fbuf.read 0 = startByte ∧
      s.fbuf.read (s.flen.toNat - 1) = endByte ∧ s.fbuf.read 1 = s.rxLabel ∧
      s.rxLenField = le16 (s.fbuf.read 2) (s.fbuf.read 3) ∧ s.lenw = (s.rxLenField != s.rxSize)

/-- A request the transport port allows: 5 ≤ length ≤ MAX_FRAME (R160). -/
def Request.legal (c : Config) : Request → Bool
  | .txReq f => 5 ≤ f.length && f.length ≤ c.maxFrame
  | .rxReq n => 5 ≤ n && n ≤ c.maxFrame

/-- Every RxReq directly follows a TxReq (R73); `prev` tells whether a TxReq stands just before. -/
def readsFollowWrites : Bool → List Request → Bool
  | _, [] => true
  | _, .txReq _ :: rs => readsFollowWrites true rs
  | prev, .rxReq _ :: rs => prev && readsFollowWrites false rs

/-- Whether the last request is a TxReq. -/
def lastIsTxReq : List Request → Bool
  | [] => false
  | [.txReq _] => true
  | [.rxReq _] => false
  | _ :: rs => lastIsTxReq rs

/-- The requests placed so far are legal (R160), every read follows its write (R73), and while a TxReq is outstanding it
is the last request placed (R36). -/
abbrev State.PortInv (s : State) : Prop :=
  (s.portSent.all fun r => r.legal s.cfg) = true ∧ readsFollowWrites false s.portSent = true ∧
    (s.phase = .txw → lastIsTxReq s.portSent = true)

/-- The invariant of the block: it holds after reset and every step keeps it. -/
structure State.Inv (s : State) : Prop where
  memory : s.MemoryInv
  sequence : s.SequenceInv
  descriptor : s.DescriptorInv
  length : s.LengthInv
  flag : s.FlagInv
  results : s.ResultInv
  validated : s.ValidatedInv
  port : s.PortInv

/-- A turn that presents no undecodable bytes. -/
def Turn.decodable : Turn → Bool
  | .word bytes =>
    match decode bytes with
    | .ok _ => true
    | .error _ => false
  | .core => true
  | .reset _ => true

/-- k steps, stopping at the first fault or refusal. -/
def run : Nat → State → Host.Outcome State Fault Refusal
  | 0, s => .next s
  | k + 1, s =>
    match step s with
    | .next t => run k t
    | .fault r => .fault r
    | .refused r => .refused r

end Sys2Proof.Machine
end

