-- ==== Sys2Proof/Certificates/Slice0/Obligations.lean ====
section
/-! DEFINITION. The statements for the provers. A record update `{ s with … }` as a next state says the whole frame: every
field not named keeps its value, the buffers' every byte among them. Where a buffer changes, `Spec.Holds` says each
byte stored and that every other byte reads as before. -/

namespace Sys2Proof.Spec

open Sys2Proof.Machine

/-- The bytes `f` lie in `m` from index 0 on, and every byte at `f.length` and above reads as in `old`. -/
def Holds (m old : Memory) (f : List Byte) : Prop :=
  (∀ (i : Nat) (h : i < f.length), m.read i = f[i]) ∧ ∀ i, f.length ≤ i → m.read i = old.read i

/-- The frame layout of R80 and R120 in its own words: START, LABEL, SIZE[7:0], SIZE[15:8], payload, END. -/
def frameOf (label : Byte) (size : U16) (p : List Byte) : List Byte :=
  [0x7E, label, BitVec.ofNat 8 size.toNat, BitVec.ofNat 8 (size.toNat / 256)] ++ p ++ [0xE7]

/-- TXBUF[0 .. TX_SIZE]. -/
def txPayload (s : State) : List Byte := (List.range s.txSize.toNat).map fun i => s.txbuf.read i

/-- The request frame of the TX descriptor. -/
def request (s : State) : List Byte := frameOf s.txLabel s.txSize (txPayload s)

/-- R103: what an accepted issue of `op` leaves, with `ph` the phase it enters. -/
def issued (s : State) (op : Op) (ph : Phase) : State :=
  { s with
    rej := false, done := false, valid := false, lenw := false, result := .none, txCount := 0, tcause := 0
    tdir := false, rxLenField := 0, opr := some op, busy := true, phase := ph }

/-- R187 after R103: an operation that completes with `code` and records nothing else. -/
def completed (s : State) (code : Result) : State :=
  { s with
    rej := false, done := true, valid := false, lenw := false, result := code, txCount := 0, tcause := 0
    tdir := false, rxLenField := 0, opr := none, busy := false, phase := .idle, pend := .none }

/-- R187 alone: the registers complete(code) writes, everything else as it stands. -/
def ended (s : State) (code : Result) : State :=
  { s with result := code, done := true, busy := false, phase := .idle, opr := none, pend := .none }

/-- A TX descriptor that fits, an RX descriptor that fits (R103). -/
def txFits (s : State) : Prop := s.txSize.toNat ≤ s.cfg.maxPayload
def rxFits (s : State) : Prop := s.rxSize.toNat ≤ s.cfg.maxPayload

/-- The turns of WR8 words, one for each address and byte, in the spec's word encoding (R89). -/
def writes (l : List (HostAddr × Byte)) : List Turn := l.map fun w => .word (encode (.wr8 w.1 w.2))

/-- A turn in which a host access, a CMD byte or a catalog frame is presented. -/
def isHostWord (i : Instr) : Bool :=
  match i with
  | .txReq _ => false
  | .rxReq _ => false
  | .wrCount _ => false
  | .wrErr _ => false
  | .rdData _ => false
  | .rdErr _ => false
  | .rd8 _ _ => true
  | .wr8 _ _ => true
  | .cmdEncode => true
  | .cmdDecode => true
  | .cmdTransact => true
  | .cmdReserved00 => true
  | .cmdReserved04 _ => true
  | .cmdReserved08 _ => true
  | .cmdReserved10 _ => true
  | .cmdReserved20 _ => true
  | .cmdReserved40 _ => true
  | .cmdReserved80 _ => true
  | .getParametersRequest _ => true
  | .getParametersReply _ _ _ _ _ => true
  | .getSerialNumberRequest => true
  | .getSerialNumberReply _ _ _ _ => true

/-- A start state of a run: `State.reset` with any instance, any reset bytes in the buffers and any schedule. -/
def resetWith (c : Config) (d : ResetDraw) (turns : List Turn) : State :=
  { ({ State.reset with cfg := c, schedule := turns } : State).resetEvent d with schedule := turns }

end Sys2Proof.Spec

open Sys2Proof Sys2Proof.Machine

/-! ### Encodings -/

/-- Decoding an encoded well-formed instruction gives it back, every operand at every value. Rests on the word layouts of
notes/assumptions/11.md for the transport messages. -/
def Obligations.DecodeOfEncodeIsTheInstruction : Prop :=
  ∀ i : Instr, i.wellFormed = true → decode (encode i) = .ok i

/-- Each word has one meaning: bytes the decoder accepts are the encoding of what it reads. -/
def Obligations.AcceptedBytesAreTheEncoding : Prop :=
  ∀ (bytes : List Byte) (i : Instr), decode bytes = .ok i → encode i = bytes

/-- R89: word = W*2^26 + ADDR*2^8 + DATA. -/
def Obligations.BusOpWordFieldsAreDecoded : Prop :=
  ∀ (addr : HostAddr) (v : Byte),
    decodeTableWord 32 (1 * 2 ^ 26 + addr.toNat * 2 ^ 8 + v.toNat) = some (.wr8 addr v) ∧
      decodeTableWord 32 (0 * 2 ^ 26 + addr.toNat * 2 ^ 8 + 0) = some (.rd8 addr 0)

/-- R86: the CMD byte is matched as a whole; every byte but 0x01, 0x02, 0x03 decodes to an instruction that is rejected
with REJ = 1 and changes nothing else. -/
def Obligations.CmdBytesDecodeToTheirOperation : Prop :=
  decode [0x01] = .ok .cmdEncode ∧ decode [0x02] = .ok .cmdDecode ∧ decode [0x03] = .ok .cmdTransact ∧
    ∀ op : Byte, op ≠ 0x01 → op ≠ 0x02 → op ≠ 0x03 →
      ∃ i, decode [op] = .ok i ∧ ∀ s : State, exec i s = .next { s with rej := true }

/-- R141 to R144: the frame bytes of the four catalog types, as the rules list them, decode to their rows. -/
def Obligations.CatalogFrameBytesDecode : Prop :=
  (∀ p : U16, decode [0x7E, 0x03, 0x02, 0x00, BitVec.ofNat 8 p.toNat, BitVec.ofNat 8 (p.toNat / 256), 0xE7] =
      .ok (.getParametersRequest p)) ∧
    (∀ a b c d r : Byte, decode [0x7E, 0x03, 0x05, 0x00, a, b, c, d, r, 0xE7] = .ok (.getParametersReply a b c d r)) ∧
    decode [0x7E, 0x0A, 0x00, 0x00, 0xE7] = .ok .getSerialNumberRequest ∧
    ∀ a b c d : Byte, decode [0x7E, 0x0A, 0x04, 0x00, a, b, c, d, 0xE7] = .ok (.getSerialNumberReply a b c d)

/-- Some words written out from the spec's encodings decode to the instruction they stand for (R86, R89, R141 to R144). -/
def Obligations.WrittenOutWordsDecode : Prop :=
  decodeTableWord 32 0x4000403 = some (.wr8 0x00004 0x03) ∧ decodeTableWord 32 0x0000100 = some (.rd8 0x00001 0) ∧
    decodeTableWord 32 0x60008E7 = some (.wr8 0x20008 0xE7) ∧ decodeTableWord 8 0x03 = some .cmdTransact ∧
    decodeTableWord 8 0x04 = some (.cmdReserved04 0) ∧ decodeTableWord 8 0xFF = some (.cmdReserved80 0x7F) ∧
    decode [0x7E, 0x0A, 0x04, 0x00, 0x01, 0x02, 0x03, 0x04, 0xE7] = .ok (.getSerialNumberReply 1 2 3 4)

/-! ### Steps -/

/-- A step takes the schedule's first turn: a word that decodes to a well-formed instruction runs it with exactly that
turn removed, a CORE turn runs the CORE, a RESET turn the RESET event; with no turn scheduled the CORE may move. -/
def Obligations.StepRunsTheScheduledTurn : Prop :=
  ∀ (s : State) (rest : List Turn),
    (∀ (bytes : List Byte) (i : Instr), s.schedule = .word bytes :: rest → decode bytes = .ok i → i.wellFormed = true →
        step s = exec i { s with schedule := rest }) ∧
      (s.schedule = .core :: rest → step s = .next ({ s with schedule := rest } : State).coreTurn) ∧
      (∀ d : ResetDraw, s.schedule = .reset d :: rest → step s = .next (({ s with schedule := rest } : State).resetEvent d)) ∧
      (s.schedule = [] → step s = .next s.coreTurn)

/-- A word of the opcode table presented with withFetchWord is what the next step runs. -/
def Obligations.PresentedTableWordRunsNext : Prop :=
  ∀ (s : State) (nbits w : Nat) (i : Instr), decodeTableWord nbits w = some i → step (s.withFetchWord nbits w) = exec i s

/-- No instruction faults or is refused: every one of them answers a next state in every state (R100, R180). That a turn
the spec does not enable answers one too, and that undecodable bytes are left out, are the model's choices
(notes/assumptions/5.md, notes/assumptions/6.md, notes/assumptions/7.md, notes/assumptions/15.md). -/
def Obligations.DecodableTurnsAnswerANextState : Prop :=
  ∀ s : State, s.nextTurn.decodable = true → ∃ t, step s = .next t

/-- A step never changes the instance parameter, and CAP reads it in every state (R6, R33). -/
def Obligations.CapacityIsConstant : Prop :=
  ∀ s t : State, step s = .next t →
    t.cfg = s.cfg ∧ (t.hostRead 0x00018).toNat + 256 * (t.hostRead 0x00019).toNat = s.cfg.maxPayload

/-! ### Host port -/

/-- R101, R108: RD8 returns the byte of its region and writes no state of the block. The byte is said through hostReads, the
model's record of what the host received (notes/assumptions/13.md), and a read's word runs whatever its DATA
(notes/assumptions/12.md). -/
def Obligations.Rd8ReturnsTheByteOfItsRegion : Prop :=
  ∀ (s : State) (addr : HostAddr) (data : Byte),
    exec (.rd8 addr data) s = .next { s with hostReads := s.hostReads ++
      [if addr.toNat / 65536 = 0 then s.regRead (addr.toNat % 65536)
       else if addr.toNat / 65536 = 1 then
         if addr.toNat % 65536 < s.cfg.maxPayload then s.txbuf.read (addr.toNat % 65536) else 0x00
       else if addr.toNat / 65536 = 2 then
         if s.busy = false ∧ addr.toNat % 65536 < s.cfg.maxPayload + 5 then s.fbuf.read (addr.toNat % 65536) else 0x00
       else if s.valid = true ∧ addr.toNat % 65536 < s.rxSize.toNat then s.fbuf.read (4 + addr.toNat % 65536) else 0x00] }

/-- R106: what each register offset reads as. -/
def Obligations.RegisterMapReads : Prop :=
  ∀ s : State,
    s.regRead 0x00 = 0x00 ∧
      (s.regRead 0x01).toNat =
        s.lenw.toNat * 16 + s.rej.toNat * 8 + s.valid.toNat * 4 + s.done.toNat * 2 + s.busy.toNat ∧
      (s.regRead 0x02).toNat = (match s.result with
        | .none => 0 | .ok => 1 | .lengthError => 2 | .frameError => 3 | .labelError => 4
        | .transportError => 5 | .descError => 6) ∧
      (s.regRead 0x03).toNat = (match s.phase with | .idle => 0 | .enc => 1 | .txw => 2 | .rxw => 3 | .dec => 4) ∧
      s.regRead 0x04 = s.txLabel ∧
      (s.regRead 0x06).toNat + 256 * (s.regRead 0x07).toNat = s.txSize.toNat ∧
      s.regRead 0x08 = s.rxLabel ∧
      (s.regRead 0x0A).toNat + 256 * (s.regRead 0x0B).toNat = s.rxSize.toNat ∧
      (s.regRead 0x0C).toNat + 2 ^ 8 * (s.regRead 0x0D).toNat + 2 ^ 16 * (s.regRead 0x0E).toNat +
        2 ^ 24 * (s.regRead 0x0F).toNat = s.flen.toNat ∧
      (s.regRead 0x10).toNat + 2 ^ 8 * (s.regRead 0x11).toNat + 2 ^ 16 * (s.regRead 0x12).toNat +
        2 ^ 24 * (s.regRead 0x13).toNat = s.txCount.toNat ∧
      s.regRead 0x14 = s.tcause ∧ (s.regRead 0x15).toNat = s.tdir.toNat ∧
      (s.regRead 0x16).toNat + 256 * (s.regRead 0x17).toNat = s.rxLenField.toNat ∧
      (s.regRead 0x18).toNat + 256 * (s.regRead 0x19).toNat = s.cfg.maxPayload ∧
      s.regRead 0x05 = 0x00 ∧ s.regRead 0x09 = 0x00 ∧ ∀ o, 0x1A ≤ o → s.regRead o = 0x00

/-- R102, TXBUF: with BUSY = 0 the byte is stored and no other byte or register changes; outside the storage nothing
changes. -/
def Obligations.Wr8StoresInTxbuf : Prop :=
  ∀ (s : State) (addr : HostAddr) (v : Byte), s.busy = false → s.txbuf.wf = true → addr.toNat / 65536 = 1 →
    (addr.toNat % 65536 < s.cfg.maxPayload →
      ∃ m : Memory, exec (.wr8 addr v) s = .next { s with txbuf := m } ∧ m.read (addr.toNat % 65536) = v ∧
        ∀ a, a ≠ addr.toNat % 65536 → m.read a = s.txbuf.read a) ∧
      (s.cfg.maxPayload ≤ addr.toNat % 65536 → exec (.wr8 addr v) s = .next s)

/-- R102, FBUF: with BUSY = 0 the byte is stored and VALID is cleared; outside the storage only VALID is cleared. -/
def Obligations.Wr8StoresInFbufAndClosesTheAperture : Prop :=
  ∀ (s : State) (addr : HostAddr) (v : Byte), s.busy = false → s.fbuf.wf = true → addr.toNat / 65536 = 2 →
    (addr.toNat % 65536 < s.cfg.maxPayload + 5 →
      ∃ m : Memory, exec (.wr8 addr v) s = .next { s with fbuf := m, valid := false } ∧
        m.read (addr.toNat % 65536) = v ∧ ∀ a, a ≠ addr.toNat % 65536 → m.read a = s.fbuf.read a) ∧
      (s.cfg.maxPayload + 5 ≤ addr.toNat % 65536 → exec (.wr8 addr v) s = .next { s with valid := false })

/-- R107: what a write to each register offset does with BUSY = 0; every other offset but CMD is ignored. -/
def Obligations.Wr8WritesTheRegisters : Prop :=
  ∀ (s : State) (v : Byte), s.busy = false →
    exec (.wr8 0x00004 v) s = .next { s with txLabel := v } ∧
      (∃ z : U16, exec (.wr8 0x00006 v) s = .next { s with txSize := z } ∧
        z.toNat = s.txSize.toNat / 256 * 256 + v.toNat) ∧
      (∃ z : U16, exec (.wr8 0x00007 v) s = .next { s with txSize := z } ∧
        z.toNat = v.toNat * 256 + s.txSize.toNat % 256) ∧
      exec (.wr8 0x00008 v) s = .next { s with rxLabel := v, valid := false } ∧
      (∃ z : U16, exec (.wr8 0x0000A v) s = .next { s with rxSize := z, valid := false } ∧
        z.toNat = s.rxSize.toNat / 256 * 256 + v.toNat) ∧
      (∃ z : U16, exec (.wr8 0x0000B v) s = .next { s with rxSize := z, valid := false } ∧
        z.toNat = v.toNat * 256 + s.rxSize.toNat % 256) ∧
      (∀ k : Nat, k < 4 → ∃ n : U32,
        exec (.wr8 (BitVec.ofNat 18 (0x0C + k)) v) s = .next { s with flen := n, valid := false } ∧
          (n.toNat / 256 ^ k) % 256 = v.toNat ∧
          ∀ j, j < 4 → j ≠ k → (n.toNat / 256 ^ j) % 256 = (s.flen.toNat / 256 ^ j) % 256) ∧
      ∀ addr : HostAddr, addr.toNat < 65536 →
        addr.toNat ∉ [0x00, 0x04, 0x06, 0x07, 0x08, 0x0A, 0x0B, 0x0C, 0x0D, 0x0E, 0x0F] →
        exec (.wr8 addr v) s = .next s

/-- R204: while BUSY = 1 every write but the one to CMD is dropped, and the CMD write only sets REJ. -/
def Obligations.WritesWhileBusyAreDropped : Prop :=
  ∀ (s : State) (addr : HostAddr) (v : Byte), s.busy = true →
    (addr.toNat ≠ 0 → exec (.wr8 addr v) s = .next s) ∧ exec (.wr8 0x00000 v) s = .next { s with rej := true }

/-- R62, R63: the payload aperture is read-only. -/
def Obligations.ApertureWritesAreIgnored : Prop :=
  ∀ (s : State) (addr : HostAddr) (v : Byte), addr.toNat / 65536 = 3 → exec (.wr8 addr v) s = .next s

/-- A register byte the host can write reads back what was written, and no other register byte but STATUS changes
(R64, R106, R107). -/
def Obligations.WrittenRegisterByteReadsBack : Prop :=
  ∀ (s : State) (o : Nat) (v : Byte),
    o ∈ [0x04, 0x06, 0x07, 0x08, 0x0A, 0x0B, 0x0C, 0x0D, 0x0E, 0x0F] → s.busy = false →
      ∃ t, exec (.wr8 (BitVec.ofNat 18 o) v) s = .next t ∧ t.regRead o = v ∧
        ∀ o', o' ≠ o → o' ≠ 0x01 → t.regRead o' = s.regRead o'

/-! ### Command issue -/

/-- R103: an accepted issue clears the results of the last operation and starts the new one; an operation that uses a
descriptor with SIZE > MAX_PAYLOAD completes at once with DESC_ERROR. A descriptor it does not use is not checked. -/
def Obligations.IssueStartsTheOperationOrReportsDescError : Prop :=
  ∀ s : State, s.busy = false →
    (Spec.txFits s → exec .cmdEncode s = .next (Spec.issued s .encode .enc)) ∧
      (¬Spec.txFits s → exec .cmdEncode s = .next (Spec.completed s .descError)) ∧
      (Spec.rxFits s → exec .cmdDecode s = .next (Spec.issued s .decode .dec)) ∧
      (¬Spec.rxFits s → exec .cmdDecode s = .next (Spec.completed s .descError)) ∧
      (Spec.txFits s ∧ Spec.rxFits s → exec .cmdTransact s = .next (Spec.issued s .transact .enc)) ∧
      (¬(Spec.txFits s ∧ Spec.rxFits s) → exec .cmdTransact s = .next (Spec.completed s .descError)) ∧
      exec (.wr8 0x00000 0x01) s = exec .cmdEncode s ∧ exec (.wr8 0x00000 0x02) s = exec .cmdDecode s ∧
      exec (.wr8 0x00000 0x03) s = exec .cmdTransact s

/-- R104: a reserved CMD value sets REJ and changes nothing else, whichever of the seven rows it is. -/
def Obligations.ReservedCommandsAreRejected : Prop :=
  ∀ s : State, s.busy = false →
    exec .cmdReserved00 s = .next { s with rej := true } ∧
      (∀ low, exec (.cmdReserved04 low) s = .next { s with rej := true }) ∧
      (∀ low, exec (.cmdReserved08 low) s = .next { s with rej := true }) ∧
      (∀ low, exec (.cmdReserved10 low) s = .next { s with rej := true }) ∧
      (∀ low, exec (.cmdReserved20 low) s = .next { s with rej := true }) ∧
      (∀ low, exec (.cmdReserved40 low) s = .next { s with rej := true }) ∧
      (∀ low, exec (.cmdReserved80 low) s = .next { s with rej := true }) ∧
      ∀ v : Byte, v ≠ 0x01 → v ≠ 0x02 → v ≠ 0x03 → exec (.wr8 0x00000 v) s = .next { s with rej := true }

/-- R105: while BUSY = 1 every CMD byte sets REJ and nothing else; the operation goes on unchanged. -/
def Obligations.CommandsWhileBusyAreRejected : Prop :=
  ∀ s : State, s.busy = true →
    exec .cmdEncode s = .next { s with rej := true } ∧ exec .cmdDecode s = .next { s with rej := true } ∧
      exec .cmdTransact s = .next { s with rej := true } ∧ exec .cmdReserved00 s = .next { s with rej := true } ∧
      (∀ low, exec (.cmdReserved04 low) s = .next { s with rej := true }) ∧
      (∀ low, exec (.cmdReserved08 low) s = .next { s with rej := true }) ∧
      (∀ low, exec (.cmdReserved10 low) s = .next { s with rej := true }) ∧
      (∀ low, exec (.cmdReserved20 low) s = .next { s with rej := true }) ∧
      (∀ low, exec (.cmdReserved40 low) s = .next { s with rej := true }) ∧
      (∀ low, exec (.cmdReserved80 low) s = .next { s with rej := true }) ∧
      ∀ v : Byte, exec (.wr8 0x00000 v) s = .next { s with rej := true }

/-- R41: an accepted issue forgets the results of earlier operations: two idle states that differ only in them (and in
REJ) are one state after the issue. -/
def Obligations.IssueForgetsEarlierResults : Prop :=
  ∀ (s : State) (i : Instr) (done valid rej lenw tdir : Bool) (result : Result) (txCount : U32) (tcause : Byte)
    (rxLenField : U16), i ∈ [Instr.cmdEncode, .cmdDecode, .cmdTransact] → s.busy = false →
      exec i { s with
        done := done, valid := valid, rej := rej, lenw := lenw, tdir := tdir, result := result, txCount := txCount
        tcause := tcause, rxLenField := rxLenField } = exec i s

/-! ### ENCODE and DECODE -/

/-- R121: ENCODE, issued with a descriptor that fits, completes with OK in the CORE's one step. FBUF holds the frame of
R120, its other bytes and every register not named keep their values, FLEN = TX_SIZE + 5 and VALID stays 0. -/
def Obligations.EncodeFramesTxbuf : Prop :=
  ∀ s : State, s.busy = false → Spec.txFits s → s.fbuf.wf = true →
    ∃ t f, exec .cmdEncode s = .next t ∧
      t.coreTurn = { Spec.completed s .ok with fbuf := f, flen := BitVec.ofNat 32 (s.txSize.toNat + 5) } ∧
      Spec.Holds f s.fbuf (Spec.request s)

/-- R122, R123, R125: DECODE, issued with a descriptor that fits, completes in the CORE's one step with the first failing
check of length, markers and label, or with OK, VALID, RX_LENFIELD and LENW. FBUF and FLEN do not change. -/
def Obligations.DecodeReportsTheFirstFailingCheck : Prop :=
  ∀ s : State, s.busy = false → Spec.rxFits s →
    ∃ t, exec .cmdDecode s = .next t ∧
      t.coreTurn =
        if s.flen.toNat ≠ s.rxSize.toNat + 5 then Spec.completed s .lengthError
        else if s.fbuf.read 0 ≠ 0x7E ∨ s.fbuf.read (s.flen.toNat - 1) ≠ 0xE7 then Spec.completed s .frameError
        else if s.fbuf.read 1 ≠ s.rxLabel then Spec.completed s .labelError
        else
          { Spec.completed s .ok with
            valid := true
            rxLenField := s.fbuf.read 3 ++ s.fbuf.read 2
            lenw := decide ((s.fbuf.read 2).toNat + 256 * (s.fbuf.read 3).toNat ≠ s.rxSize.toNat) }

/-- R124: Check never reads outside FBUF: two buffers that agree below MAX_FRAME get the same result for every FLEN, and
with FLEN ≠ RX_SIZE + 5 no byte at all is read. -/
def Obligations.CheckReadsOnlyFbuf : Prop :=
  ∀ (s : State) (m : Memory), Spec.rxFits s →
    ((∀ i, i < s.cfg.maxPayload + 5 → m.read i = s.fbuf.read i) →
        ({ s with fbuf := m } : State).checkResult = s.checkResult) ∧
      (s.flen.toNat ≠ s.rxSize.toNat + 5 → ({ s with fbuf := m } : State).checkResult = .lengthError)

/-- R125: the result of a check never depends on the wire LENGTH_LE, bytes 2 and 3 of FBUF. -/
def Obligations.CheckIgnoresTheLengthField : Prop :=
  ∀ (s : State) (m : Memory), (∀ i, i ≠ 2 → i ≠ 3 → m.read i = s.fbuf.read i) →
    ({ s with fbuf := m } : State).checkResult = s.checkResult

/-- R127: with one descriptor for both directions, ENCODE and then DECODE, four turns with no host write but the two CMD
writes, both complete with OK and leave VALID = 1, RX_LENFIELD = N and LENW = 0, and the aperture shows the payload. -/
def Obligations.EncodeThenDecodeRoundTrips : Prop :=
  ∀ (s : State) (rest : List Turn),
    s.busy = false → Spec.txFits s → s.fbuf.wf = true → s.rxLabel = s.txLabel → s.rxSize = s.txSize →
    s.schedule = .word [0x01] :: .core :: .word [0x02] :: .core :: rest →
      (∃ u, run 2 s = .next u ∧ u.result = .ok ∧ u.done = true ∧ u.busy = false) ∧
        ∃ t, run 4 s = .next t ∧ t.result = .ok ∧ t.done = true ∧ t.busy = false ∧ t.valid = true ∧
          t.rxLenField = s.txSize ∧ t.lenw = false ∧ t.schedule = rest ∧
          ∀ i, i < s.txSize.toNat → t.apRead i = s.txbuf.read i

/-! ### TRANSACT and the transport -/

/-- R163, R121: TRANSACT, issued with both descriptors fitting, sends TxReq of the request frame in the CORE's step, with
the frame in FBUF and FLEN its length. -/
def Obligations.TransactSendsTheRequestFrame : Prop :=
  ∀ s : State, s.busy = false → Spec.txFits s → Spec.rxFits s → s.fbuf.wf = true →
    ∃ t f, exec .cmdTransact s = .next t ∧
      t.coreTurn = { Spec.issued s .transact .txw with
        fbuf := f, flen := BitVec.ofNat 32 (s.txSize.toNat + 5), pend := .tx
        portSent := s.portSent ++ [.txReq (Spec.request s)] } ∧
      Spec.Holds f s.fbuf (Spec.request s)

/-- The row TxReq(f) is the step that sends it: EncStep of a TRANSACT, for f the request frame only (R121, R160; the
reading of the row is notes/assumptions/9.md). -/
def Obligations.TxReqIsSentByTheEncodingOfATransact : Prop :=
  ∀ s : State,
    (s.phase = .enc → s.opr = some .transact → Spec.txFits s → s.fbuf.wf = true →
      ∃ f, exec (.txReq (Spec.request s)) s = .next { s with
          fbuf := f, flen := BitVec.ofNat 32 (s.txSize.toNat + 5), pend := .tx, phase := .txw
          portSent := s.portSent ++ [.txReq (Spec.request s)] } ∧
        Spec.Holds f s.fbuf (Spec.request s)) ∧
      (∀ g, g ≠ Spec.request s → exec (.txReq g) s = .next s) ∧
      ∀ g, s.phase ≠ .enc ∨ s.opr ≠ some .transact → exec (.txReq g) s = .next s

/-- R164: the write response. WrErr completes with TRANSPORT_ERROR, a count other than FLEN with LENGTH_ERROR and no
RxReq, and the full count sends RxReq(RX_SIZE + 5). -/
def Obligations.WriteResponseDecidesTheRead : Prop :=
  ∀ s : State, s.phase = .txw → s.pend = .tx →
    (∀ e, exec (.wrErr e) s = .next { Spec.ended s .transportError with tcause := e, tdir := false }) ∧
      (∀ c, c ≠ s.flen → exec (.wrCount c) s = .next { Spec.ended s .lengthError with txCount := c }) ∧
      exec (.wrCount s.flen) s = .next { s with
        txCount := s.flen, portSent := s.portSent ++ [.rxReq (s.rxSize.toNat + 5)], pend := .rx, phase := .rxw }

/-- The row RxReq(n) is the step that sends it: the acceptance of the full write count, for n = RX_SIZE + 5 only
(R73, R160, R164; the reading of the row is notes/assumptions/9.md). -/
def Obligations.RxReqIsSentByTheFullCount : Prop :=
  ∀ s : State,
    (s.phase = .txw → s.pend = .tx → exec (.rxReq (s.rxSize.toNat + 5)) s = .next { s with
      txCount := s.flen, portSent := s.portSent ++ [.rxReq (s.rxSize.toNat + 5)], pend := .rx, phase := .rxw }) ∧
      (∀ n, n ≠ s.rxSize.toNat + 5 → exec (.rxReq n) s = .next s) ∧
      ∀ n, s.phase ≠ .txw → exec (.rxReq n) s = .next s

/-- R165: the read response. RdErr completes with TRANSPORT_ERROR and leaves FBUF and FLEN alone; RdData of RX_SIZE + 5
bytes goes into FBUF from index 0 on, FLEN is its length, and DecStep follows. -/
def Obligations.ReadResponseLoadsTheReply : Prop :=
  ∀ s : State, s.phase = .rxw → s.pend = .rx → Spec.rxFits s → s.fbuf.wf = true →
    (∀ e, exec (.rdErr e) s = .next { Spec.ended s .transportError with tcause := e, tdir := true }) ∧
      ∀ b, b.length = s.rxSize.toNat + 5 →
        ∃ f, exec (.rdData b) s = .next { s with
            fbuf := f, flen := BitVec.ofNat 32 (s.rxSize.toNat + 5), pend := .none, phase := .dec } ∧
          Spec.Holds f s.fbuf b

/-- R169: with no request outstanding every response is dropped and changes nothing. -/
def Obligations.StaleResponsesAreDropped : Prop :=
  ∀ s : State, s.pend = .none →
    (∀ c, exec (.wrCount c) s = .next s) ∧ (∀ e, exec (.wrErr e) s = .next s) ∧
      (∀ b, exec (.rdData b) s = .next s) ∧ ∀ e, exec (.rdErr e) s = .next s

/-- A response of the other kind, or RdData of another number of bytes, answers no outstanding request and changes nothing
(the model's choice: notes/assumptions/6.md, notes/assumptions/7.md). -/
def Obligations.UnmatchedResponsesChangeNothing : Prop :=
  ∀ s : State,
    (s.phase ≠ .txw → (∀ c, exec (.wrCount c) s = .next s) ∧ ∀ e, exec (.wrErr e) s = .next s) ∧
      (s.phase ≠ .rxw → (∀ b, exec (.rdData b) s = .next s) ∧ ∀ e, exec (.rdErr e) s = .next s) ∧
      ∀ b, b.length ≠ s.rxSize.toNat + 5 → exec (.rdData b) s = .next s

/-- R166: when the reply of a TRANSACT is checked the length check passes, so the result is OK, FRAME_ERROR or
LABEL_ERROR. -/
def Obligations.ReplyCheckNeverReportsLength : Prop :=
  ∀ s : State, s.Inv → s.phase = .dec → s.opr = some .transact →
    s.coreTurn.busy = false ∧
      (s.coreTurn.result = .ok ∨ s.coreTurn.result = .frameError ∨ s.coreTurn.result = .labelError)

/-- R163: a TRANSACT whose transport writes the whole frame and delivers a valid reply ends with OK after five turns: the
requests sent are the frame and RX_SIZE + 5, FBUF holds the reply over the request frame over its old bytes, and the
aperture shows the reply's payload. -/
def Obligations.FullTransactionDeliversTheReplyPayload : Prop :=
  ∀ (s : State) (p : List Byte) (n0 n1 : Byte) (rest : List Turn),
    s.busy = false → Spec.txFits s → Spec.rxFits s → s.fbuf.wf = true → p.length = s.rxSize.toNat →
    s.schedule = .word [0x03] :: .core :: .word (encode (.wrCount (BitVec.ofNat 32 (s.txSize.toNat + 5)))) ::
      .word (encode (.rdData ([0x7E, s.rxLabel, n0, n1] ++ p ++ [0xE7]))) :: .core :: rest →
      ∃ t, run 5 s = .next t ∧ t.result = .ok ∧ t.done = true ∧ t.busy = false ∧ t.valid = true ∧ t.phase = .idle ∧
        t.flen.toNat = s.rxSize.toNat + 5 ∧ t.txCount.toNat = s.txSize.toNat + 5 ∧ t.rxLenField = n1 ++ n0 ∧
        t.lenw = decide (n1 ++ n0 ≠ s.rxSize) ∧
        t.portSent = s.portSent ++ [.txReq (Spec.request s), .rxReq (s.rxSize.toNat + 5)] ∧
        (∃ f, Spec.Holds f s.fbuf (Spec.request s) ∧
          Spec.Holds t.fbuf f ([0x7E, s.rxLabel, n0, n1] ++ p ++ [0xE7])) ∧
        (∀ (i : Nat) (h : i < p.length), t.apRead i = p[i]) ∧
        t.txbuf = s.txbuf ∧ t.txLabel = s.txLabel ∧ t.txSize = s.txSize ∧ t.rxLabel = s.rxLabel ∧
        t.rxSize = s.rxSize ∧ t.tcause = 0 ∧ t.tdir = false ∧ t.schedule = rest

/-- R186, R188: the failing transactions. A write error, a wrong write count and a read error each complete with the
first failure, leave the request frame in FBUF and the aperture closed; after a failed write no RxReq is sent. -/
def Obligations.FailedTransactionsKeepTheRequestFrame : Prop :=
  ∀ (s : State) (e : Byte) (c : U32) (rest : List Turn),
    s.busy = false → Spec.txFits s → Spec.rxFits s → s.fbuf.wf = true →
    (s.schedule = .word [0x03] :: .core :: .word (encode (.wrErr e)) :: rest →
      ∃ t, run 3 s = .next t ∧ t.result = .transportError ∧ t.tcause = e ∧ t.tdir = false ∧ t.txCount = 0 ∧
        t.busy = false ∧ t.done = true ∧ t.valid = false ∧ t.flen.toNat = s.txSize.toNat + 5 ∧
        Spec.Holds t.fbuf s.fbuf (Spec.request s) ∧ t.portSent = s.portSent ++ [.txReq (Spec.request s)]) ∧
      (c.toNat ≠ s.txSize.toNat + 5 → s.schedule = .word [0x03] :: .core :: .word (encode (.wrCount c)) :: rest →
        ∃ t, run 3 s = .next t ∧ t.result = .lengthError ∧ t.tcause = 0 ∧ t.tdir = false ∧ t.txCount = c ∧
          t.busy = false ∧ t.done = true ∧ t.valid = false ∧ t.flen.toNat = s.txSize.toNat + 5 ∧
          Spec.Holds t.fbuf s.fbuf (Spec.request s) ∧ t.portSent = s.portSent ++ [.txReq (Spec.request s)]) ∧
      (c.toNat = s.txSize.toNat + 5 →
        s.schedule = .word [0x03] :: .core :: .word (encode (.wrCount c)) :: .word (encode (.rdErr e)) :: rest →
        ∃ t, run 4 s = .next t ∧ t.result = .transportError ∧ t.tcause = e ∧ t.tdir = true ∧ t.txCount = c ∧
          t.busy = false ∧ t.done = true ∧ t.valid = false ∧ t.flen.toNat = s.txSize.toNat + 5 ∧
          Spec.Holds t.fbuf s.fbuf (Spec.request s) ∧
          t.portSent = s.portSent ++ [.txReq (Spec.request s), .rxReq (s.rxSize.toNat + 5)])

/-- R167: while the transport does not answer an outstanding request, no host word, CORE turn or response of the other
kind (the model drops it: notes/assumptions/6.md) ends the operation: BUSY stays 1, PHASE, PEND, OPR, RESULT, FBUF and
FLEN stay, and nothing is sent. -/
def Obligations.OnlyAnAnswerOrResetEndsTheWait : Prop :=
  ∀ s t : State, step s = .next t → s.busy = true →
    (∀ d, s.nextTurn ≠ .reset d) →
    ((s.phase = .txw ∧ ∀ bytes i, s.nextTurn = .word bytes → decode bytes = .ok i →
        (∀ c, i ≠ .wrCount c) ∧ (∀ e, i ≠ .wrErr e) ∧ ∀ n, i ≠ .rxReq n) ∨
      (s.phase = .rxw ∧ ∀ bytes i, s.nextTurn = .word bytes → decode bytes = .ok i →
        (∀ b, i ≠ .rdData b) ∧ ∀ e, i ≠ .rdErr e)) →
      t.busy = true ∧ t.phase = s.phase ∧ t.pend = s.pend ∧ t.opr = s.opr ∧ t.result = s.result ∧
        t.fbuf = s.fbuf ∧ t.flen = s.flen ∧ t.portSent = s.portSent

/-! ### The catalog frames -/

/-- R141, R143: a request type's host programming: TX_LABEL, TX_SIZE and TXBUF, and nothing else. The row's step is the
first WR8, and the steps after it are the others (R100). That a frame row stands for its host programming is
notes/assumptions/10.md. -/
def Obligations.RequestFramesProgramTheTxDescriptor : Prop :=
  ∀ s : State, s.busy = false → s.txbuf.wf = true →
    (∀ p : U16, ∃ t m, exec (.getParametersRequest p) s = .next t ∧
      t = { s with
        txLabel := 0x03
        schedule := Spec.writes [(0x00006, 0x02), (0x00007, 0x00), (0x10000, BitVec.ofNat 8 p.toNat),
          (0x10001, BitVec.ofNat 8 (p.toNat / 256))] ++ s.schedule } ∧
      run 4 t = .next { s with txLabel := 0x03, txSize := 2, txbuf := m } ∧
      Spec.Holds m s.txbuf [BitVec.ofNat 8 p.toNat, BitVec.ofNat 8 (p.toNat / 256)]) ∧
      ∃ t, exec .getSerialNumberRequest s = .next t ∧
        t = { s with txLabel := 0x0A, schedule := Spec.writes [(0x00006, 0x00), (0x00007, 0x00)] ++ s.schedule } ∧
        run 2 t = .next { s with txLabel := 0x0A, txSize := 0 }

/-- R142, R144: a reply type's host programming with its frame as the operand of DECODE (R203): RX_LABEL, RX_SIZE, FBUF
and FLEN, with VALID cleared by the writes, and nothing else. The row's step is the first WR8, and the steps after it are
the others (R100, notes/assumptions/10.md). -/
def Obligations.ReplyFramesProgramTheRxDescriptor : Prop :=
  ∀ s : State, s.busy = false → s.fbuf.wf = true →
    (∀ a b c d r : Byte, ∃ t m, exec (.getParametersReply a b c d r) s = .next t ∧
      t = { s with
        rxLabel := 0x03, valid := false
        schedule := Spec.writes [(0x0000A, 0x05), (0x0000B, 0x00), (0x20000, 0x7E), (0x20001, 0x03), (0x20002, 0x05),
          (0x20003, 0x00), (0x20004, a), (0x20005, b), (0x20006, c), (0x20007, d), (0x20008, r), (0x20009, 0xE7),
          (0x0000C, 0x0A), (0x0000D, 0x00), (0x0000E, 0x00), (0x0000F, 0x00)] ++ s.schedule } ∧
      run 16 t = .next { s with rxLabel := 0x03, rxSize := 5, fbuf := m, flen := 10, valid := false } ∧
      Spec.Holds m s.fbuf [0x7E, 0x03, 0x05, 0x00, a, b, c, d, r, 0xE7]) ∧
      ∀ a b c d : Byte, ∃ t m, exec (.getSerialNumberReply a b c d) s = .next t ∧
        t = { s with
          rxLabel := 0x0A, valid := false
          schedule := Spec.writes [(0x0000A, 0x04), (0x0000B, 0x00), (0x20000, 0x7E), (0x20001, 0x0A), (0x20002, 0x04),
            (0x20003, 0x00), (0x20004, a), (0x20005, b), (0x20006, c), (0x20007, d), (0x20008, 0xE7),
            (0x0000C, 0x09), (0x0000D, 0x00), (0x0000E, 0x00), (0x0000F, 0x00)] ++ s.schedule } ∧
        run 15 t = .next { s with rxLabel := 0x0A, rxSize := 4, fbuf := m, flen := 9, valid := false } ∧
        Spec.Holds m s.fbuf [0x7E, 0x0A, 0x04, 0x00, a, b, c, d, 0xE7]

/-- While BUSY = 1 the writes of a frame row are dropped like every host write (R204): after the row's step and those of
its other writes the state is as it was (notes/assumptions/10.md). -/
def Obligations.CatalogFramesWhileBusyAreDropped : Prop :=
  ∀ s : State, s.busy = true →
    (∀ p, ∃ t, exec (.getParametersRequest p) s = .next t ∧ t = { s with schedule := t.schedule } ∧ run 4 t = .next s) ∧
      (∀ a b c d r, ∃ t, exec (.getParametersReply a b c d r) s = .next t ∧ t = { s with schedule := t.schedule } ∧
        run 16 t = .next s) ∧
      (∃ t, exec .getSerialNumberRequest s = .next t ∧ t = { s with schedule := t.schedule } ∧ run 2 t = .next s) ∧
      ∀ a b c d, ∃ t, exec (.getSerialNumberReply a b c d) s = .next t ∧ t = { s with schedule := t.schedule } ∧
        run 15 t = .next s

/-- R141 to R144, R147 on the block: a request row's programming followed by ENCODE puts exactly the row's bytes into
FBUF, and a reply row's followed by DECODE ends with OK and shows its fields in the aperture, for every field value.
That a presented frame row performs the host programming is the model's choice (notes/assumptions/10.md). -/
def Obligations.CatalogTypesEncodeAndDecode : Prop :=
  ∀ (s : State) (rest : List Turn), s.busy = false → s.txbuf.wf = true → s.fbuf.wf = true →
    (∀ p : U16, s.schedule = .word (encode (.getParametersRequest p)) :: .word [0x01] :: .core :: rest →
      ∃ t, run 7 s = .next t ∧ t.result = .ok ∧ t.flen = 7 ∧
        Spec.Holds t.fbuf s.fbuf
          [0x7E, 0x03, 0x02, 0x00, BitVec.ofNat 8 p.toNat, BitVec.ofNat 8 (p.toNat / 256), 0xE7]) ∧
      (s.schedule = .word (encode .getSerialNumberRequest) :: .word [0x01] :: .core :: rest →
        ∃ t, run 5 s = .next t ∧ t.result = .ok ∧ t.flen = 5 ∧
          Spec.Holds t.fbuf s.fbuf [0x7E, 0x0A, 0x00, 0x00, 0xE7]) ∧
      (∀ a b c d r : Byte,
        s.schedule = .word (encode (.getParametersReply a b c d r)) :: .word [0x02] :: .core :: rest →
        ∃ t, run 19 s = .next t ∧ t.result = .ok ∧ t.valid = true ∧ t.lenw = false ∧
          t.apRead 0 = a ∧ t.apRead 1 = b ∧ t.apRead 2 = c ∧ t.apRead 3 = d ∧ t.apRead 4 = r ∧ t.apRead 5 = 0x00) ∧
      ∀ a b c d : Byte,
        s.schedule = .word (encode (.getSerialNumberReply a b c d)) :: .word [0x02] :: .core :: rest →
        ∃ t, run 18 s = .next t ∧ t.result = .ok ∧ t.valid = true ∧ t.lenw = false ∧
          t.apRead 0 = a ∧ t.apRead 1 = b ∧ t.apRead 2 = c ∧ t.apRead 3 = d ∧ t.apRead 4 = 0x00

/-! ### Reset -/

/-- R40, R200, R201: the RESET event, in any state and in one step, sets every register to its reset value and forgets the
outstanding request; MAX_PAYLOAD stays. The buffers hold the bytes the event draws; a byte the draw does not reach keeps
its old value (notes/assumptions/3.md). -/
def Obligations.ResetEventSetsEveryRegister : Prop :=
  ∀ (s : State) (d : ResetDraw) (rest : List Turn), s.schedule = .reset d :: rest →
    ∃ tx f, step s = .next { s with
        busy := false, done := false, valid := false, rej := false, lenw := false, result := .none, phase := .idle
        txLabel := 0, txSize := 0, rxLabel := 0, rxSize := 0, flen := 0, txCount := 0, tcause := 0, tdir := false
        rxLenField := 0, opr := none, pend := .none, txbuf := tx, fbuf := f, schedule := rest } ∧
      (s.txbuf.wf = true → Spec.Holds tx s.txbuf (d.txbuf.take s.cfg.maxPayload)) ∧
      (s.fbuf.wf = true → Spec.Holds f s.fbuf (d.fbuf.take (s.cfg.maxPayload + 5)))

/-- R40, R200: the buffer bytes after RESET are arbitrary: for every contents there is a draw that leaves it. -/
def Obligations.ResetCanLeaveAnyBufferBytes : Prop :=
  ∀ (s : State) (rest : List Turn) (g h : Nat → Byte), s.txbuf.wf = true → s.fbuf.wf = true →
    ∃ d t, step { s with schedule := .reset d :: rest } = .next t ∧
      (∀ i, i < s.cfg.maxPayload → t.txbuf.read i = g i) ∧ ∀ i, i < s.cfg.maxPayload + 5 → t.fbuf.read i = h i

/-- R40: the registers of the state after reset. The instance and the buffer bytes of State.reset are the model's choice
(notes/assumptions/1.md, notes/assumptions/2.md) and are not stated here. -/
def Obligations.ResetStateRegisters : Prop :=
  State.reset.status = 0x00 ∧ State.reset.result = .none ∧ State.reset.phase = .idle ∧ State.reset.txLabel = 0 ∧
    State.reset.txSize = 0 ∧ State.reset.rxLabel = 0 ∧ State.reset.rxSize = 0 ∧ State.reset.flen = 0 ∧
    State.reset.txCount = 0 ∧ State.reset.tcause = 0 ∧ State.reset.tdir = false ∧ State.reset.rxLenField = 0 ∧
    State.reset.opr = none ∧ State.reset.pend = .none

/-! ### Invariants and whole-machine rules -/

/-- The invariant holds after reset. -/
def Obligations.InvariantHoldsAtReset : Prop := State.reset.Inv

/-- Every step keeps the invariant. -/
def Obligations.EveryStepKeepsTheInvariant : Prop :=
  ∀ s t : State, s.Inv → step s = .next t → t.Inv

/-- R126: in every state a run can reach, from any reset contents under any schedule, VALID = 1 means BUSY = 0,
RESULT = OK, FLEN = RX_SIZE + 5, both markers and the label right. -/
def Obligations.ValidMeansAValidatedFrame : Prop :=
  ∀ (c : Config) (d : ResetDraw) (turns : List Turn) (k : Nat) (t : State),
    run k (Spec.resetWith c d turns) = .next t → t.valid = true →
      t.busy = false ∧ t.result = .ok ∧ t.flen.toNat = t.rxSize.toNat + 5 ∧ t.fbuf.read 0 = 0x7E ∧
        t.fbuf.read (t.flen.toNat - 1) = 0xE7 ∧ t.fbuf.read 1 = t.rxLabel

/-- R73, R160: in every state a run can reach, each RxReq directly follows a TxReq, and every request has a length from 5
to MAX_FRAME. -/
def Obligations.TransportRequestsAreLegalAndOrdered : Prop :=
  ∀ (c : Config) (d : ResetDraw) (turns : List Turn) (k : Nat) (t : State),
    run k (Spec.resetWith c d turns) = .next t →
      readsFollowWrites false t.portSent = true ∧
        ∀ r ∈ t.portSent, match r with
          | .txReq f => 5 ≤ f.length ∧ f.length ≤ c.maxPayload + 5
          | .rxReq n => 5 ≤ n ∧ n ≤ c.maxPayload + 5

/-- R24, R26: the flags agree in every state a run can reach: PHASE = IDLE iff BUSY = 0, BUSY = 1 implies DONE = 0 and
VALID = 0, VALID = 1 implies DONE = 1 and RESULT = OK. -/
def Obligations.StatusFlagsAgree : Prop :=
  ∀ (c : Config) (d : ResetDraw) (turns : List Turn) (k : Nat) (t : State),
    run k (Spec.resetWith c d turns) = .next t →
      (t.phase = .idle ↔ t.busy = false) ∧ (t.busy = true → t.done = false ∧ t.valid = false) ∧
        (t.valid = true → t.done = true ∧ t.result = .ok) ∧ (t.pend = .tx ↔ t.phase = .txw) ∧
        (t.pend = .rx ↔ t.phase = .rxw)

/-- R72: while BUSY = 1 no turn but RESET changes an operand: the descriptors and TXBUF stay in every step, and FBUF and
FLEN stay in every step of the host. -/
def Obligations.OperandsAreFrozenWhileBusy : Prop :=
  ∀ s t : State, s.busy = true → step s = .next t → (∀ d, s.nextTurn ≠ .reset d) →
    t.txLabel = s.txLabel ∧ t.txSize = s.txSize ∧ t.rxLabel = s.rxLabel ∧ t.rxSize = s.rxSize ∧ t.txbuf = s.txbuf ∧
      ∀ bytes i, s.nextTurn = .word bytes → decode bytes = .ok i → Spec.isHostWord i = true →
        t.fbuf = s.fbuf ∧ t.flen = s.flen ∧ t.busy = true ∧ t.phase = s.phase

/-- R126: only DecStep sets VALID, and only on OK. -/
def Obligations.OnlyDecStepOpensTheAperture : Prop :=
  ∀ s t : State, s.valid = false → step s = .next t → t.valid = true →
    s.nextTurn = .core ∧ s.phase = .dec ∧ s.checkResult = .ok ∧ t.result = .ok

/-- R24, R103, R105: REJ is cleared only by RESET or by an accepted issue: the turn is a CMD byte 0x01, 0x02 or 0x03, or
WR8 of one of them to CMD, with BUSY = 0, and it starts an operation or ends at once with DESC_ERROR. -/
def Obligations.RejIsClearedOnlyByAnAcceptedIssueOrReset : Prop :=
  ∀ s t : State, step s = .next t → s.rej = true → t.rej = false →
    (∃ d, s.nextTurn = .reset d) ∨
      (s.busy = false ∧
        (∃ bytes i, s.nextTurn = .word bytes ∧ decode bytes = .ok i ∧
          (i = .cmdEncode ∨ i = .cmdDecode ∨ i = .cmdTransact ∨
            ∃ v : Byte, i = .wr8 0x00000 v ∧ (v = 0x01 ∨ v = 0x02 ∨ v = 0x03))) ∧
        ((t.busy = true ∧ t.result = .none ∧ t.done = false) ∨
          (t.busy = false ∧ t.result = .descError ∧ t.done = true)))

/-- R180, R187: BUSY falls only at RESET or at a completion, which sets DONE, a RESULT other than NONE, PHASE IDLE, OPR
and PEND none; on any error the aperture stays closed. -/
def Obligations.BusyEndsOnlyByCompletionOrReset : Prop :=
  ∀ s t : State, s.Inv → s.busy = true → step s = .next t → t.busy = false →
    (∃ d, s.nextTurn = .reset d) ∨
      (t.done = true ∧ t.result ≠ .none ∧ t.phase = .idle ∧ t.opr = none ∧ t.pend = .none ∧
        (t.result ≠ .ok → t.valid = false ∧ ∀ o, t.apRead o = 0x00))

/-- R100: a HOST step is exactly one RD8 or one WR8, in every state. A read's word is one read (whatever its DATA:
notes/assumptions/12.md), a one-byte word is the write of that byte to CMD, and the step of every other host word is one
write; what more a frame row writes stands as further WR8 words in the schedule (notes/assumptions/10.md). -/
def Obligations.EveryHostWordIsOneAccess : Prop :=
  ∀ s : State,
    (∀ a d, exec (.rd8 a d) s = exec (.rd8 a 0) s) ∧
      (∀ (i : Instr) (v : Byte), i.wellFormed = true → encode i = [v] → exec i s = exec (.wr8 0x00000 v) s) ∧
      ∀ i : Instr, Spec.isHostWord i = true → (∃ a d, i = .rd8 a d) ∨
        ∃ (a : HostAddr) (v : Byte) (t : State) (more : List (HostAddr × Byte)),
          exec (.wr8 a v) s = .next t ∧ exec i s = .next { t with schedule := Spec.writes more ++ s.schedule }
end

