-- ==== Sys2Proof/Laws/Bits.lean ====
section
/-! SUPPORT. The laws of byte order and of the frame layout. -/

namespace Sys2Proof.Machine

/-- R10: le16(lo, hi) = lo + 256*hi. -/
theorem toNat_le16 (lo hi : Byte) : (le16 lo hi).toNat = lo.toNat + 256 * hi.toNat := by
  have := lo.isLt
  rw [le16, BitVec.toNat_append, Nat.shiftLeft_eq, Nat.mul_comm, ← Nat.two_pow_add_eq_or_of_lt (by omega)]
  omega

/-- R10: le32(b0, b1, b2, b3) = b0 + 2^8*b1 + 2^16*b2 + 2^24*b3. -/
theorem toNat_le32 (b0 b1 b2 b3 : Byte) :
    (le32 b0 b1 b2 b3).toNat = b0.toNat + 2^8 * b1.toNat + 2^16 * b2.toNat + 2^24 * b3.toNat := by
  have h := (le16 b0 b1).isLt
  rw [le32, BitVec.toNat_append, Nat.shiftLeft_eq, Nat.mul_comm, ← Nat.two_pow_add_eq_or_of_lt h, toNat_le16, toNat_le16]
  omega

/-- A byte of a value as a number. -/
theorem toNat_byteOf {w : Nat} (v : BitVec w) (k : Nat) : (byteOf v k).toNat = v.toNat / 2^(8 * k) % 256 := by
  simp [byteOf, BitVec.extractLsb'_toNat, Nat.shiftRight_eq_div_pow]

@[simp] theorem byteOf_le16_zero (lo hi : Byte) : byteOf (le16 lo hi) 0 = lo := by
  have h0 := lo.isLt
  apply BitVec.eq_of_toNat_eq
  rw [toNat_byteOf, toNat_le16]
  omega

@[simp] theorem byteOf_le16_one (lo hi : Byte) : byteOf (le16 lo hi) 1 = hi := by
  have h0 := lo.isLt
  have h1 := hi.isLt
  apply BitVec.eq_of_toNat_eq
  rw [toNat_byteOf, toNat_le16]
  omega

theorem le16_byteOf (v : U16) : le16 (byteOf v 0) (byteOf v 1) = v := by
  have h := v.isLt
  apply BitVec.eq_of_toNat_eq
  rw [toNat_le16, toNat_byteOf, toNat_byteOf]
  omega

theorem byteOf_le32 (b0 b1 b2 b3 : Byte) (k : Nat) :
    (byteOf (le32 b0 b1 b2 b3) k).toNat =
      (b0.toNat + 2^8 * b1.toNat + 2^16 * b2.toNat + 2^24 * b3.toNat) / 2^(8 * k) % 256 := by
  rw [toNat_byteOf, toNat_le32]

@[simp] theorem byteOf_le32_zero (b0 b1 b2 b3 : Byte) : byteOf (le32 b0 b1 b2 b3) 0 = b0 := by
  have h0 := b0.isLt
  apply BitVec.eq_of_toNat_eq
  rw [byteOf_le32]
  omega

@[simp] theorem byteOf_le32_one (b0 b1 b2 b3 : Byte) : byteOf (le32 b0 b1 b2 b3) 1 = b1 := by
  have h0 := b0.isLt
  have h1 := b1.isLt
  apply BitVec.eq_of_toNat_eq
  rw [byteOf_le32]
  omega

@[simp] theorem byteOf_le32_two (b0 b1 b2 b3 : Byte) : byteOf (le32 b0 b1 b2 b3) 2 = b2 := by
  have h0 := b0.isLt
  have h1 := b1.isLt
  have h2 := b2.isLt
  apply BitVec.eq_of_toNat_eq
  rw [byteOf_le32]
  omega

@[simp] theorem byteOf_le32_three (b0 b1 b2 b3 : Byte) : byteOf (le32 b0 b1 b2 b3) 3 = b3 := by
  have h0 := b0.isLt
  have h1 := b1.isLt
  have h2 := b2.isLt
  have h3 := b3.isLt
  apply BitVec.eq_of_toNat_eq
  rw [byteOf_le32]
  omega

theorem le32_byteOf (v : U32) : le32 (byteOf v 0) (byteOf v 1) (byteOf v 2) (byteOf v 3) = v := by
  have h := v.isLt
  apply BitVec.eq_of_toNat_eq
  rw [toNat_le32, toNat_byteOf, toNat_byteOf, toNat_byteOf, toNat_byteOf]
  omega

@[simp] theorem length_frame (l : Byte) (n : U16) (p : List Byte) : (frame l n p).length = p.length + 5 := by
  simp [frame]

end Sys2Proof.Machine
end

