-- ==== Sys2Proof/Laws/Memory.lean ====
section
/-! SUPPORT. The laws of byte storage: read after write, canonical form and capacity kept by every memory operation. -/

namespace Sys2Proof.Machine.Memory

/-! ### The canonical form -/

theorem wfFrom_mono {lo lo' : Nat} {m : Memory} (h : wfFrom lo m = true) (le : lo' ≤ lo) : wfFrom lo' m = true := by
  cases m with
  | nil => rfl
  | cons c t =>
    obtain ⟨b, w⟩ := c
    simp only [wfFrom, Bool.and_eq_true, decide_eq_true_eq] at h ⊢
    exact ⟨⟨by omega, h.1.2⟩, h.2⟩

theorem wfFrom_consCell {lo a : Nat} {v : Byte} {t : Memory} (ha : lo ≤ a) (ht : wfFrom (a + 1) t = true) :
    wfFrom lo (consCell a v t) = true := by
  unfold consCell
  split
  · exact wfFrom_mono ht (by omega)
  · simp_all [wfFrom]

theorem wfFrom_write {m : Memory} : ∀ {lo a : Nat} {v : Byte}, wfFrom lo m = true → lo ≤ a →
    wfFrom lo (write m a v) = true := by
  induction m with
  | nil => intro lo a v _ ha; exact wfFrom_consCell ha rfl
  | cons c t ih =>
    obtain ⟨b, w⟩ := c
    intro lo a v h ha
    simp only [wfFrom, Bool.and_eq_true, decide_eq_true_eq] at h
    unfold write
    split
    · exact wfFrom_consCell ha (by simp only [wfFrom, Bool.and_eq_true, decide_eq_true_eq]; exact ⟨⟨by omega, h.1.2⟩, h.2⟩)
    · split
      · next e => exact wfFrom_consCell ha (e ▸ h.2)
      · simp only [wfFrom, Bool.and_eq_true, decide_eq_true_eq]
        exact ⟨h.1, ih h.2 (by omega)⟩

theorem wf_write {m : Memory} (a : Nat) (v : Byte) (h : wf m = true) : wf (write m a v) = true :=
  wfFrom_write h (Nat.zero_le a)

theorem wf_store {m : Memory} (cap a : Nat) (v : Byte) (h : wf m = true) : wf (store cap m a v) = true := by
  unfold store
  split
  · exact wf_write a v h
  · exact h

theorem wf_storeList (cap : Nat) (vs : List Byte) : ∀ {m : Memory} (a : Nat), wf m = true →
    wf (storeList cap m a vs) = true := by
  induction vs with
  | nil => intro m a h; exact h
  | cons v vs ih => intro m a h; exact ih (a + 1) (wf_store cap a v h)

/-! ### The capacity -/

theorem within_cons {cap b : Nat} {w : Byte} {t : Memory} :
    within cap ((b, w) :: t) = true ↔ b < cap ∧ within cap t = true := by
  simp only [within, List.all_cons, Bool.and_eq_true, decide_eq_true_eq]

theorem within_consCell {cap a : Nat} {v : Byte} {t : Memory} (ha : a < cap) (ht : within cap t = true) :
    within cap (consCell a v t) = true := by
  unfold consCell
  split
  · exact ht
  · exact within_cons.2 ⟨ha, ht⟩

theorem within_write {cap a : Nat} {v : Byte} {m : Memory} (ha : a < cap) (h : within cap m = true) :
    within cap (write m a v) = true := by
  induction m with
  | nil => exact within_consCell ha h
  | cons c t ih =>
    obtain ⟨b, w⟩ := c
    have ht := within_cons.1 h
    unfold write
    split
    · exact within_consCell ha h
    · split
      · exact within_consCell ha ht.2
      · exact within_cons.2 ⟨ht.1, ih ht.2⟩

theorem within_store {cap : Nat} {m : Memory} (a : Nat) (v : Byte) (h : within cap m = true) :
    within cap (store cap m a v) = true := by
  unfold store
  split
  · next ha => exact within_write ha h
  · exact h

theorem within_storeList {cap : Nat} (vs : List Byte) : ∀ {m : Memory} (a : Nat), within cap m = true →
    within cap (storeList cap m a vs) = true := by
  induction vs with
  | nil => intro m a h; exact h
  | cons v vs ih => intro m a h; exact ih (a + 1) (within_store a v h)

/-! ### Reading -/

theorem read_below {m : Memory} : ∀ {lo a : Nat}, wfFrom lo m = true → a < lo → read m a = unwritten := by
  induction m with
  | nil => intros; rfl
  | cons c t ih =>
    obtain ⟨b, w⟩ := c
    intro lo a h ha
    simp only [wfFrom, Bool.and_eq_true, decide_eq_true_eq] at h
    unfold read
    rw [if_neg (by omega)]
    exact ih h.2 (by omega)

theorem read_consCell_same {a : Nat} {v : Byte} {t : Memory} (h : wfFrom (a + 1) t = true) :
    read (consCell a v t) a = v := by
  unfold consCell
  split
  · next e => rw [e]; exact read_below h (by omega)
  · simp [read]

theorem read_consCell_other {a a' : Nat} {v : Byte} {t : Memory} (ne : a' ≠ a) :
    read (consCell a v t) a' = read t a' := by
  unfold consCell
  split
  · rfl
  · simp [read, ne]

theorem read_write_same_from {m : Memory} : ∀ {lo a : Nat} {v : Byte}, wfFrom lo m = true → read (write m a v) a = v := by
  induction m with
  | nil => intro lo a v _; exact read_consCell_same rfl
  | cons c t ih =>
    obtain ⟨b, w⟩ := c
    intro lo a v h
    simp only [wfFrom, Bool.and_eq_true, decide_eq_true_eq] at h
    unfold write
    split
    · exact read_consCell_same (by simp only [wfFrom, Bool.and_eq_true, decide_eq_true_eq]; exact ⟨⟨by omega, h.1.2⟩, h.2⟩)
    · split
      · next e => exact read_consCell_same (e ▸ h.2)
      · next ne => unfold read; rw [if_neg ne]; exact ih h.2

/-- A byte written is read back. -/
theorem read_write_same {m : Memory} (a : Nat) (v : Byte) (h : wf m = true) : read (write m a v) a = v :=
  read_write_same_from h

/-- A write leaves every other byte alone. -/
theorem read_write_other {m : Memory} {a a' : Nat} {v : Byte} (ne : a' ≠ a) : read (write m a v) a' = read m a' := by
  induction m with
  | nil => exact read_consCell_other ne
  | cons c t ih =>
    obtain ⟨b, w⟩ := c
    unfold write
    split
    · exact read_consCell_other ne
    · split
      · next e => rw [read_consCell_other ne]; simp [read, show a' ≠ b from fun h => ne (h.trans e.symm)]
      · simp only [read, ih]

theorem read_store_same {m : Memory} {cap a : Nat} (v : Byte) (h : wf m = true) (ha : a < cap) :
    read (store cap m a v) a = v := by
  unfold store; rw [if_pos ha]; exact read_write_same a v h

theorem read_store_other {m : Memory} {cap a a' : Nat} {v : Byte} (ne : a' ≠ a) :
    read (store cap m a v) a' = read m a' := by
  unfold store
  split
  · exact read_write_other ne
  · rfl

/-- Outside the stored bytes nothing changes. -/
theorem read_storeList_outside {cap : Nat} (vs : List Byte) : ∀ {m : Memory} {a a' : Nat},
    a' < a ∨ a + vs.length ≤ a' → read (storeList cap m a vs) a' = read m a' := by
  induction vs with
  | nil => intros; rfl
  | cons v vs ih =>
    intro m a a' h
    simp only [List.length_cons] at h
    rw [storeList, ih (by omega), read_store_other (by omega)]

/-- A stored byte is read back, where it lies in the storage. -/
theorem read_storeList_inside {cap : Nat} (vs : List Byte) : ∀ {m : Memory} {a i : Nat} (hi : i < vs.length),
    wf m = true → a + i < cap → read (storeList cap m a vs) (a + i) = vs[i] := by
  induction vs with
  | nil => intro m a i hi; simp at hi
  | cons v vs ih =>
    intro m a i hi hm hc
    rw [storeList]
    cases i with
    | zero => rw [read_storeList_outside vs (by omega)]; exact read_store_same v hm hc
    | succ j =>
      rw [show a + (j + 1) = a + 1 + j by omega]
      exact ih (by simpa using hi) (wf_store cap a v hm) (by omega)

@[simp] theorem length_readList (m : Memory) (n : Nat) : ∀ a, (readList m a n).length = n := by
  induction n with
  | zero => intro a; rfl
  | succ n ih => intro a; simp [readList, ih]

theorem getElem_readList (m : Memory) (n : Nat) : ∀ (a i : Nat) (hi : i < (readList m a n).length),
    (readList m a n)[i] = read m (a + i) := by
  induction n with
  | zero => intro a i hi; simp at hi
  | succ n ih =>
    intro a i hi
    cases i with
    | zero => rfl
    | succ j =>
      simp only [readList, List.getElem_cons_succ]
      rw [ih (a + 1) j, show a + 1 + j = a + (j + 1) by omega]

end Sys2Proof.Machine.Memory
end

