-- ==== Sys2Proof/Laws/State.lean ====
section
/-! SUPPORT. One lemma per field per state update, each true by rfl, so that no later proof unfolds a record update. -/

namespace Sys2Proof.Machine.State

@[simp] theorem storeTx_cfg (s : State) (i : Nat) (v : Byte) : (s.storeTx i v).cfg = s.cfg := rfl
@[simp] theorem storeTx_busy (s : State) (i : Nat) (v : Byte) : (s.storeTx i v).busy = s.busy := rfl
@[simp] theorem storeTx_done (s : State) (i : Nat) (v : Byte) : (s.storeTx i v).done = s.done := rfl
@[simp] theorem storeTx_valid (s : State) (i : Nat) (v : Byte) : (s.storeTx i v).valid = s.valid := rfl
@[simp] theorem storeTx_rej (s : State) (i : Nat) (v : Byte) : (s.storeTx i v).rej = s.rej := rfl
@[simp] theorem storeTx_lenw (s : State) (i : Nat) (v : Byte) : (s.storeTx i v).lenw = s.lenw := rfl
@[simp] theorem storeTx_result (s : State) (i : Nat) (v : Byte) : (s.storeTx i v).result = s.result := rfl
@[simp] theorem storeTx_phase (s : State) (i : Nat) (v : Byte) : (s.storeTx i v).phase = s.phase := rfl
@[simp] theorem storeTx_txLabel (s : State) (i : Nat) (v : Byte) : (s.storeTx i v).txLabel = s.txLabel := rfl
@[simp] theorem storeTx_txSize (s : State) (i : Nat) (v : Byte) : (s.storeTx i v).txSize = s.txSize := rfl
@[simp] theorem storeTx_rxLabel (s : State) (i : Nat) (v : Byte) : (s.storeTx i v).rxLabel = s.rxLabel := rfl
@[simp] theorem storeTx_rxSize (s : State) (i : Nat) (v : Byte) : (s.storeTx i v).rxSize = s.rxSize := rfl
@[simp] theorem storeTx_flen (s : State) (i : Nat) (v : Byte) : (s.storeTx i v).flen = s.flen := rfl
@[simp] theorem storeTx_txCount (s : State) (i : Nat) (v : Byte) : (s.storeTx i v).txCount = s.txCount := rfl
@[simp] theorem storeTx_tcause (s : State) (i : Nat) (v : Byte) : (s.storeTx i v).tcause = s.tcause := rfl
@[simp] theorem storeTx_tdir (s : State) (i : Nat) (v : Byte) : (s.storeTx i v).tdir = s.tdir := rfl
@[simp] theorem storeTx_rxLenField (s : State) (i : Nat) (v : Byte) : (s.storeTx i v).rxLenField = s.rxLenField := rfl
@[simp] theorem storeTx_opr (s : State) (i : Nat) (v : Byte) : (s.storeTx i v).opr = s.opr := rfl
@[simp] theorem storeTx_pend (s : State) (i : Nat) (v : Byte) : (s.storeTx i v).pend = s.pend := rfl
@[simp] theorem storeTx_txbuf (s : State) (i : Nat) (v : Byte) : (s.storeTx i v).txbuf = Memory.store s.cfg.maxPayload s.txbuf i v := rfl
@[simp] theorem storeTx_fbuf (s : State) (i : Nat) (v : Byte) : (s.storeTx i v).fbuf = s.fbuf := rfl
@[simp] theorem storeTx_schedule (s : State) (i : Nat) (v : Byte) : (s.storeTx i v).schedule = s.schedule := rfl
@[simp] theorem storeTx_hostReads (s : State) (i : Nat) (v : Byte) : (s.storeTx i v).hostReads = s.hostReads := rfl
@[simp] theorem storeTx_portSent (s : State) (i : Nat) (v : Byte) : (s.storeTx i v).portSent = s.portSent := rfl

@[simp] theorem storeF_cfg (s : State) (i : Nat) (v : Byte) : (s.storeF i v).cfg = s.cfg := rfl
@[simp] theorem storeF_busy (s : State) (i : Nat) (v : Byte) : (s.storeF i v).busy = s.busy := rfl
@[simp] theorem storeF_done (s : State) (i : Nat) (v : Byte) : (s.storeF i v).done = s.done := rfl
@[simp] theorem storeF_valid (s : State) (i : Nat) (v : Byte) : (s.storeF i v).valid = s.valid := rfl
@[simp] theorem storeF_rej (s : State) (i : Nat) (v : Byte) : (s.storeF i v).rej = s.rej := rfl
@[simp] theorem storeF_lenw (s : State) (i : Nat) (v : Byte) : (s.storeF i v).lenw = s.lenw := rfl
@[simp] theorem storeF_result (s : State) (i : Nat) (v : Byte) : (s.storeF i v).result = s.result := rfl
@[simp] theorem storeF_phase (s : State) (i : Nat) (v : Byte) : (s.storeF i v).phase = s.phase := rfl
@[simp] theorem storeF_txLabel (s : State) (i : Nat) (v : Byte) : (s.storeF i v).txLabel = s.txLabel := rfl
@[simp] theorem storeF_txSize (s : State) (i : Nat) (v : Byte) : (s.storeF i v).txSize = s.txSize := rfl
@[simp] theorem storeF_rxLabel (s : State) (i : Nat) (v : Byte) : (s.storeF i v).rxLabel = s.rxLabel := rfl
@[simp] theorem storeF_rxSize (s : State) (i : Nat) (v : Byte) : (s.storeF i v).rxSize = s.rxSize := rfl
@[simp] theorem storeF_flen (s : State) (i : Nat) (v : Byte) : (s.storeF i v).flen = s.flen := rfl
@[simp] theorem storeF_txCount (s : State) (i : Nat) (v : Byte) : (s.storeF i v).txCount = s.txCount := rfl
@[simp] theorem storeF_tcause (s : State) (i : Nat) (v : Byte) : (s.storeF i v).tcause = s.tcause := rfl
@[simp] theorem storeF_tdir (s : State) (i : Nat) (v : Byte) : (s.storeF i v).tdir = s.tdir := rfl
@[simp] theorem storeF_rxLenField (s : State) (i : Nat) (v : Byte) : (s.storeF i v).rxLenField = s.rxLenField := rfl
@[simp] theorem storeF_opr (s : State) (i : Nat) (v : Byte) : (s.storeF i v).opr = s.opr := rfl
@[simp] theorem storeF_pend (s : State) (i : Nat) (v : Byte) : (s.storeF i v).pend = s.pend := rfl
@[simp] theorem storeF_txbuf (s : State) (i : Nat) (v : Byte) : (s.storeF i v).txbuf = s.txbuf := rfl
@[simp] theorem storeF_fbuf (s : State) (i : Nat) (v : Byte) : (s.storeF i v).fbuf = Memory.store s.cfg.maxFrame s.fbuf i v := rfl
@[simp] theorem storeF_schedule (s : State) (i : Nat) (v : Byte) : (s.storeF i v).schedule = s.schedule := rfl
@[simp] theorem storeF_hostReads (s : State) (i : Nat) (v : Byte) : (s.storeF i v).hostReads = s.hostReads := rfl
@[simp] theorem storeF_portSent (s : State) (i : Nat) (v : Byte) : (s.storeF i v).portSent = s.portSent := rfl

@[simp] theorem loadFrame_cfg (s : State) (bs : List Byte) : (s.loadFrame bs).cfg = s.cfg := rfl
@[simp] theorem loadFrame_busy (s : State) (bs : List Byte) : (s.loadFrame bs).busy = s.busy := rfl
@[simp] theorem loadFrame_done (s : State) (bs : List Byte) : (s.loadFrame bs).done = s.done := rfl
@[simp] theorem loadFrame_valid (s : State) (bs : List Byte) : (s.loadFrame bs).valid = s.valid := rfl
@[simp] theorem loadFrame_rej (s : State) (bs : List Byte) : (s.loadFrame bs).rej = s.rej := rfl
@[simp] theorem loadFrame_lenw (s : State) (bs : List Byte) : (s.loadFrame bs).lenw = s.lenw := rfl
@[simp] theorem loadFrame_result (s : State) (bs : List Byte) : (s.loadFrame bs).result = s.result := rfl
@[simp] theorem loadFrame_phase (s : State) (bs : List Byte) : (s.loadFrame bs).phase = s.phase := rfl
@[simp] theorem loadFrame_txLabel (s : State) (bs : List Byte) : (s.loadFrame bs).txLabel = s.txLabel := rfl
@[simp] theorem loadFrame_txSize (s : State) (bs : List Byte) : (s.loadFrame bs).txSize = s.txSize := rfl
@[simp] theorem loadFrame_rxLabel (s : State) (bs : List Byte) : (s.loadFrame bs).rxLabel = s.rxLabel := rfl
@[simp] theorem loadFrame_rxSize (s : State) (bs : List Byte) : (s.loadFrame bs).rxSize = s.rxSize := rfl
@[simp] theorem loadFrame_flen (s : State) (bs : List Byte) : (s.loadFrame bs).flen = BitVec.ofNat 32 bs.length := rfl
@[simp] theorem loadFrame_txCount (s : State) (bs : List Byte) : (s.loadFrame bs).txCount = s.txCount := rfl
@[simp] theorem loadFrame_tcause (s : State) (bs : List Byte) : (s.loadFrame bs).tcause = s.tcause := rfl
@[simp] theorem loadFrame_tdir (s : State) (bs : List Byte) : (s.loadFrame bs).tdir = s.tdir := rfl
@[simp] theorem loadFrame_rxLenField (s : State) (bs : List Byte) : (s.loadFrame bs).rxLenField = s.rxLenField := rfl
@[simp] theorem loadFrame_opr (s : State) (bs : List Byte) : (s.loadFrame bs).opr = s.opr := rfl
@[simp] theorem loadFrame_pend (s : State) (bs : List Byte) : (s.loadFrame bs).pend = s.pend := rfl
@[simp] theorem loadFrame_txbuf (s : State) (bs : List Byte) : (s.loadFrame bs).txbuf = s.txbuf := rfl
@[simp] theorem loadFrame_fbuf (s : State) (bs : List Byte) : (s.loadFrame bs).fbuf = Memory.storeList s.cfg.maxFrame s.fbuf 0 bs := rfl
@[simp] theorem loadFrame_schedule (s : State) (bs : List Byte) : (s.loadFrame bs).schedule = s.schedule := rfl
@[simp] theorem loadFrame_hostReads (s : State) (bs : List Byte) : (s.loadFrame bs).hostReads = s.hostReads := rfl
@[simp] theorem loadFrame_portSent (s : State) (bs : List Byte) : (s.loadFrame bs).portSent = s.portSent := rfl

@[simp] theorem complete_cfg (s : State) (c : Result) : (s.complete c).cfg = s.cfg := rfl
@[simp] theorem complete_busy (s : State) (c : Result) : (s.complete c).busy = false := rfl
@[simp] theorem complete_done (s : State) (c : Result) : (s.complete c).done = true := rfl
@[simp] theorem complete_valid (s : State) (c : Result) : (s.complete c).valid = s.valid := rfl
@[simp] theorem complete_rej (s : State) (c : Result) : (s.complete c).rej = s.rej := rfl
@[simp] theorem complete_lenw (s : State) (c : Result) : (s.complete c).lenw = s.lenw := rfl
@[simp] theorem complete_result (s : State) (c : Result) : (s.complete c).result = c := rfl
@[simp] theorem complete_phase (s : State) (c : Result) : (s.complete c).phase = .idle := rfl
@[simp] theorem complete_txLabel (s : State) (c : Result) : (s.complete c).txLabel = s.txLabel := rfl
@[simp] theorem complete_txSize (s : State) (c : Result) : (s.complete c).txSize = s.txSize := rfl
@[simp] theorem complete_rxLabel (s : State) (c : Result) : (s.complete c).rxLabel = s.rxLabel := rfl
@[simp] theorem complete_rxSize (s : State) (c : Result) : (s.complete c).rxSize = s.rxSize := rfl
@[simp] theorem complete_flen (s : State) (c : Result) : (s.complete c).flen = s.flen := rfl
@[simp] theorem complete_txCount (s : State) (c : Result) : (s.complete c).txCount = s.txCount := rfl
@[simp] theorem complete_tcause (s : State) (c : Result) : (s.complete c).tcause = s.tcause := rfl
@[simp] theorem complete_tdir (s : State) (c : Result) : (s.complete c).tdir = s.tdir := rfl
@[simp] theorem complete_rxLenField (s : State) (c : Result) : (s.complete c).rxLenField = s.rxLenField := rfl
@[simp] theorem complete_opr (s : State) (c : Result) : (s.complete c).opr = none := rfl
@[simp] theorem complete_pend (s : State) (c : Result) : (s.complete c).pend = .none := rfl
@[simp] theorem complete_txbuf (s : State) (c : Result) : (s.complete c).txbuf = s.txbuf := rfl
@[simp] theorem complete_fbuf (s : State) (c : Result) : (s.complete c).fbuf = s.fbuf := rfl
@[simp] theorem complete_schedule (s : State) (c : Result) : (s.complete c).schedule = s.schedule := rfl
@[simp] theorem complete_hostReads (s : State) (c : Result) : (s.complete c).hostReads = s.hostReads := rfl
@[simp] theorem complete_portSent (s : State) (c : Result) : (s.complete c).portSent = s.portSent := rfl

@[simp] theorem sendTxReq_cfg (s : State) (f : List Byte) : (s.sendTxReq f).cfg = s.cfg := rfl
@[simp] theorem sendTxReq_busy (s : State) (f : List Byte) : (s.sendTxReq f).busy = s.busy := rfl
@[simp] theorem sendTxReq_done (s : State) (f : List Byte) : (s.sendTxReq f).done = s.done := rfl
@[simp] theorem sendTxReq_valid (s : State) (f : List Byte) : (s.sendTxReq f).valid = s.valid := rfl
@[simp] theorem sendTxReq_rej (s : State) (f : List Byte) : (s.sendTxReq f).rej = s.rej := rfl
@[simp] theorem sendTxReq_lenw (s : State) (f : List Byte) : (s.sendTxReq f).lenw = s.lenw := rfl
@[simp] theorem sendTxReq_result (s : State) (f : List Byte) : (s.sendTxReq f).result = s.result := rfl
@[simp] theorem sendTxReq_phase (s : State) (f : List Byte) : (s.sendTxReq f).phase = .txw := rfl
@[simp] theorem sendTxReq_txLabel (s : State) (f : List Byte) : (s.sendTxReq f).txLabel = s.txLabel := rfl
@[simp] theorem sendTxReq_txSize (s : State) (f : List Byte) : (s.sendTxReq f).txSize = s.txSize := rfl
@[simp] theorem sendTxReq_rxLabel (s : State) (f : List Byte) : (s.sendTxReq f).rxLabel = s.rxLabel := rfl
@[simp] theorem sendTxReq_rxSize (s : State) (f : List Byte) : (s.sendTxReq f).rxSize = s.rxSize := rfl
@[simp] theorem sendTxReq_flen (s : State) (f : List Byte) : (s.sendTxReq f).flen = s.flen := rfl
@[simp] theorem sendTxReq_txCount (s : State) (f : List Byte) : (s.sendTxReq f).txCount = s.txCount := rfl
@[simp] theorem sendTxReq_tcause (s : State) (f : List Byte) : (s.sendTxReq f).tcause = s.tcause := rfl
@[simp] theorem sendTxReq_tdir (s : State) (f : List Byte) : (s.sendTxReq f).tdir = s.tdir := rfl
@[simp] theorem sendTxReq_rxLenField (s : State) (f : List Byte) : (s.sendTxReq f).rxLenField = s.rxLenField := rfl
@[simp] theorem sendTxReq_opr (s : State) (f : List Byte) : (s.sendTxReq f).opr = s.opr := rfl
@[simp] theorem sendTxReq_pend (s : State) (f : List Byte) : (s.sendTxReq f).pend = .tx := rfl
@[simp] theorem sendTxReq_txbuf (s : State) (f : List Byte) : (s.sendTxReq f).txbuf = s.txbuf := rfl
@[simp] theorem sendTxReq_fbuf (s : State) (f : List Byte) : (s.sendTxReq f).fbuf = s.fbuf := rfl
@[simp] theorem sendTxReq_schedule (s : State) (f : List Byte) : (s.sendTxReq f).schedule = s.schedule := rfl
@[simp] theorem sendTxReq_hostReads (s : State) (f : List Byte) : (s.sendTxReq f).hostReads = s.hostReads := rfl
@[simp] theorem sendTxReq_portSent (s : State) (f : List Byte) : (s.sendTxReq f).portSent = s.portSent ++ [.txReq f] := rfl

@[simp] theorem sendRxReq_cfg (s : State) (n : Nat) : (s.sendRxReq n).cfg = s.cfg := rfl
@[simp] theorem sendRxReq_busy (s : State) (n : Nat) : (s.sendRxReq n).busy = s.busy := rfl
@[simp] theorem sendRxReq_done (s : State) (n : Nat) : (s.sendRxReq n).done = s.done := rfl
@[simp] theorem sendRxReq_valid (s : State) (n : Nat) : (s.sendRxReq n).valid = s.valid := rfl
@[simp] theorem sendRxReq_rej (s : State) (n : Nat) : (s.sendRxReq n).rej = s.rej := rfl
@[simp] theorem sendRxReq_lenw (s : State) (n : Nat) : (s.sendRxReq n).lenw = s.lenw := rfl
@[simp] theorem sendRxReq_result (s : State) (n : Nat) : (s.sendRxReq n).result = s.result := rfl
@[simp] theorem sendRxReq_phase (s : State) (n : Nat) : (s.sendRxReq n).phase = .rxw := rfl
@[simp] theorem sendRxReq_txLabel (s : State) (n : Nat) : (s.sendRxReq n).txLabel = s.txLabel := rfl
@[simp] theorem sendRxReq_txSize (s : State) (n : Nat) : (s.sendRxReq n).txSize = s.txSize := rfl
@[simp] theorem sendRxReq_rxLabel (s : State) (n : Nat) : (s.sendRxReq n).rxLabel = s.rxLabel := rfl
@[simp] theorem sendRxReq_rxSize (s : State) (n : Nat) : (s.sendRxReq n).rxSize = s.rxSize := rfl
@[simp] theorem sendRxReq_flen (s : State) (n : Nat) : (s.sendRxReq n).flen = s.flen := rfl
@[simp] theorem sendRxReq_txCount (s : State) (n : Nat) : (s.sendRxReq n).txCount = s.txCount := rfl
@[simp] theorem sendRxReq_tcause (s : State) (n : Nat) : (s.sendRxReq n).tcause = s.tcause := rfl
@[simp] theorem sendRxReq_tdir (s : State) (n : Nat) : (s.sendRxReq n).tdir = s.tdir := rfl
@[simp] theorem sendRxReq_rxLenField (s : State) (n : Nat) : (s.sendRxReq n).rxLenField = s.rxLenField := rfl
@[simp] theorem sendRxReq_opr (s : State) (n : Nat) : (s.sendRxReq n).opr = s.opr := rfl
@[simp] theorem sendRxReq_pend (s : State) (n : Nat) : (s.sendRxReq n).pend = .rx := rfl
@[simp] theorem sendRxReq_txbuf (s : State) (n : Nat) : (s.sendRxReq n).txbuf = s.txbuf := rfl
@[simp] theorem sendRxReq_fbuf (s : State) (n : Nat) : (s.sendRxReq n).fbuf = s.fbuf := rfl
@[simp] theorem sendRxReq_schedule (s : State) (n : Nat) : (s.sendRxReq n).schedule = s.schedule := rfl
@[simp] theorem sendRxReq_hostReads (s : State) (n : Nat) : (s.sendRxReq n).hostReads = s.hostReads := rfl
@[simp] theorem sendRxReq_portSent (s : State) (n : Nat) : (s.sendRxReq n).portSent = s.portSent ++ [.rxReq n] := rfl

@[simp] theorem resetEvent_cfg (s : State) (d : ResetDraw) : (s.resetEvent d).cfg = s.cfg := rfl
@[simp] theorem resetEvent_busy (s : State) (d : ResetDraw) : (s.resetEvent d).busy = false := rfl
@[simp] theorem resetEvent_done (s : State) (d : ResetDraw) : (s.resetEvent d).done = false := rfl
@[simp] theorem resetEvent_valid (s : State) (d : ResetDraw) : (s.resetEvent d).valid = false := rfl
@[simp] theorem resetEvent_rej (s : State) (d : ResetDraw) : (s.resetEvent d).rej = false := rfl
@[simp] theorem resetEvent_lenw (s : State) (d : ResetDraw) : (s.resetEvent d).lenw = false := rfl
@[simp] theorem resetEvent_result (s : State) (d : ResetDraw) : (s.resetEvent d).result = .none := rfl
@[simp] theorem resetEvent_phase (s : State) (d : ResetDraw) : (s.resetEvent d).phase = .idle := rfl
@[simp] theorem resetEvent_txLabel (s : State) (d : ResetDraw) : (s.resetEvent d).txLabel = 0 := rfl
@[simp] theorem resetEvent_txSize (s : State) (d : ResetDraw) : (s.resetEvent d).txSize = 0 := rfl
@[simp] theorem resetEvent_rxLabel (s : State) (d : ResetDraw) : (s.resetEvent d).rxLabel = 0 := rfl
@[simp] theorem resetEvent_rxSize (s : State) (d : ResetDraw) : (s.resetEvent d).rxSize = 0 := rfl
@[simp] theorem resetEvent_flen (s : State) (d : ResetDraw) : (s.resetEvent d).flen = 0 := rfl
@[simp] theorem resetEvent_txCount (s : State) (d : ResetDraw) : (s.resetEvent d).txCount = 0 := rfl
@[simp] theorem resetEvent_tcause (s : State) (d : ResetDraw) : (s.resetEvent d).tcause = 0 := rfl
@[simp] theorem resetEvent_tdir (s : State) (d : ResetDraw) : (s.resetEvent d).tdir = false := rfl
@[simp] theorem resetEvent_rxLenField (s : State) (d : ResetDraw) : (s.resetEvent d).rxLenField = 0 := rfl
@[simp] theorem resetEvent_opr (s : State) (d : ResetDraw) : (s.resetEvent d).opr = none := rfl
@[simp] theorem resetEvent_pend (s : State) (d : ResetDraw) : (s.resetEvent d).pend = .none := rfl
@[simp] theorem resetEvent_txbuf (s : State) (d : ResetDraw) : (s.resetEvent d).txbuf = Memory.storeList s.cfg.maxPayload s.txbuf 0 d.txbuf := rfl
@[simp] theorem resetEvent_fbuf (s : State) (d : ResetDraw) : (s.resetEvent d).fbuf = Memory.storeList s.cfg.maxFrame s.fbuf 0 d.fbuf := rfl
@[simp] theorem resetEvent_schedule (s : State) (d : ResetDraw) : (s.resetEvent d).schedule = s.schedule := rfl
@[simp] theorem resetEvent_hostReads (s : State) (d : ResetDraw) : (s.resetEvent d).hostReads = s.hostReads := rfl
@[simp] theorem resetEvent_portSent (s : State) (d : ResetDraw) : (s.resetEvent d).portSent = s.portSent := rfl

@[simp] theorem reject_cfg (s : State) : s.reject.cfg = s.cfg := rfl
@[simp] theorem reject_busy (s : State) : s.reject.busy = s.busy := rfl
@[simp] theorem reject_done (s : State) : s.reject.done = s.done := rfl
@[simp] theorem reject_valid (s : State) : s.reject.valid = s.valid := rfl
@[simp] theorem reject_rej (s : State) : s.reject.rej = true := rfl
@[simp] theorem reject_lenw (s : State) : s.reject.lenw = s.lenw := rfl
@[simp] theorem reject_result (s : State) : s.reject.result = s.result := rfl
@[simp] theorem reject_phase (s : State) : s.reject.phase = s.phase := rfl
@[simp] theorem reject_txLabel (s : State) : s.reject.txLabel = s.txLabel := rfl
@[simp] theorem reject_txSize (s : State) : s.reject.txSize = s.txSize := rfl
@[simp] theorem reject_rxLabel (s : State) : s.reject.rxLabel = s.rxLabel := rfl
@[simp] theorem reject_rxSize (s : State) : s.reject.rxSize = s.rxSize := rfl
@[simp] theorem reject_flen (s : State) : s.reject.flen = s.flen := rfl
@[simp] theorem reject_txCount (s : State) : s.reject.txCount = s.txCount := rfl
@[simp] theorem reject_tcause (s : State) : s.reject.tcause = s.tcause := rfl
@[simp] theorem reject_tdir (s : State) : s.reject.tdir = s.tdir := rfl
@[simp] theorem reject_rxLenField (s : State) : s.reject.rxLenField = s.rxLenField := rfl
@[simp] theorem reject_opr (s : State) : s.reject.opr = s.opr := rfl
@[simp] theorem reject_pend (s : State) : s.reject.pend = s.pend := rfl
@[simp] theorem reject_txbuf (s : State) : s.reject.txbuf = s.txbuf := rfl
@[simp] theorem reject_fbuf (s : State) : s.reject.fbuf = s.fbuf := rfl
@[simp] theorem reject_schedule (s : State) : s.reject.schedule = s.schedule := rfl
@[simp] theorem reject_hostReads (s : State) : s.reject.hostReads = s.hostReads := rfl
@[simp] theorem reject_portSent (s : State) : s.reject.portSent = s.portSent := rfl

@[simp] theorem closeAperture_cfg (s : State) : s.closeAperture.cfg = s.cfg := rfl
@[simp] theorem closeAperture_busy (s : State) : s.closeAperture.busy = s.busy := rfl
@[simp] theorem closeAperture_done (s : State) : s.closeAperture.done = s.done := rfl
@[simp] theorem closeAperture_valid (s : State) : s.closeAperture.valid = false := rfl
@[simp] theorem closeAperture_rej (s : State) : s.closeAperture.rej = s.rej := rfl
@[simp] theorem closeAperture_lenw (s : State) : s.closeAperture.lenw = s.lenw := rfl
@[simp] theorem closeAperture_result (s : State) : s.closeAperture.result = s.result := rfl
@[simp] theorem closeAperture_phase (s : State) : s.closeAperture.phase = s.phase := rfl
@[simp] theorem closeAperture_txLabel (s : State) : s.closeAperture.txLabel = s.txLabel := rfl
@[simp] theorem closeAperture_txSize (s : State) : s.closeAperture.txSize = s.txSize := rfl
@[simp] theorem closeAperture_rxLabel (s : State) : s.closeAperture.rxLabel = s.rxLabel := rfl
@[simp] theorem closeAperture_rxSize (s : State) : s.closeAperture.rxSize = s.rxSize := rfl
@[simp] theorem closeAperture_flen (s : State) : s.closeAperture.flen = s.flen := rfl
@[simp] theorem closeAperture_txCount (s : State) : s.closeAperture.txCount = s.txCount := rfl
@[simp] theorem closeAperture_tcause (s : State) : s.closeAperture.tcause = s.tcause := rfl
@[simp] theorem closeAperture_tdir (s : State) : s.closeAperture.tdir = s.tdir := rfl
@[simp] theorem closeAperture_rxLenField (s : State) : s.closeAperture.rxLenField = s.rxLenField := rfl
@[simp] theorem closeAperture_opr (s : State) : s.closeAperture.opr = s.opr := rfl
@[simp] theorem closeAperture_pend (s : State) : s.closeAperture.pend = s.pend := rfl
@[simp] theorem closeAperture_txbuf (s : State) : s.closeAperture.txbuf = s.txbuf := rfl
@[simp] theorem closeAperture_fbuf (s : State) : s.closeAperture.fbuf = s.fbuf := rfl
@[simp] theorem closeAperture_schedule (s : State) : s.closeAperture.schedule = s.schedule := rfl
@[simp] theorem closeAperture_hostReads (s : State) : s.closeAperture.hostReads = s.hostReads := rfl
@[simp] theorem closeAperture_portSent (s : State) : s.closeAperture.portSent = s.portSent := rfl

@[simp] theorem clearResults_cfg (s : State) : s.clearResults.cfg = s.cfg := rfl
@[simp] theorem clearResults_busy (s : State) : s.clearResults.busy = s.busy := rfl
@[simp] theorem clearResults_done (s : State) : s.clearResults.done = false := rfl
@[simp] theorem clearResults_valid (s : State) : s.clearResults.valid = false := rfl
@[simp] theorem clearResults_rej (s : State) : s.clearResults.rej = false := rfl
@[simp] theorem clearResults_lenw (s : State) : s.clearResults.lenw = false := rfl
@[simp] theorem clearResults_result (s : State) : s.clearResults.result = .none := rfl
@[simp] theorem clearResults_phase (s : State) : s.clearResults.phase = s.phase := rfl
@[simp] theorem clearResults_txLabel (s : State) : s.clearResults.txLabel = s.txLabel := rfl
@[simp] theorem clearResults_txSize (s : State) : s.clearResults.txSize = s.txSize := rfl
@[simp] theorem clearResults_rxLabel (s : State) : s.clearResults.rxLabel = s.rxLabel := rfl
@[simp] theorem clearResults_rxSize (s : State) : s.clearResults.rxSize = s.rxSize := rfl
@[simp] theorem clearResults_flen (s : State) : s.clearResults.flen = s.flen := rfl
@[simp] theorem clearResults_txCount (s : State) : s.clearResults.txCount = 0 := rfl
@[simp] theorem clearResults_tcause (s : State) : s.clearResults.tcause = 0 := rfl
@[simp] theorem clearResults_tdir (s : State) : s.clearResults.tdir = false := rfl
@[simp] theorem clearResults_rxLenField (s : State) : s.clearResults.rxLenField = 0 := rfl
@[simp] theorem clearResults_opr (s : State) : s.clearResults.opr = s.opr := rfl
@[simp] theorem clearResults_pend (s : State) : s.clearResults.pend = s.pend := rfl
@[simp] theorem clearResults_txbuf (s : State) : s.clearResults.txbuf = s.txbuf := rfl
@[simp] theorem clearResults_fbuf (s : State) : s.clearResults.fbuf = s.fbuf := rfl
@[simp] theorem clearResults_schedule (s : State) : s.clearResults.schedule = s.schedule := rfl
@[simp] theorem clearResults_hostReads (s : State) : s.clearResults.hostReads = s.hostReads := rfl
@[simp] theorem clearResults_portSent (s : State) : s.clearResults.portSent = s.portSent := rfl

@[simp] theorem validate_cfg (s : State) : s.validate.cfg = s.cfg := rfl
@[simp] theorem validate_busy (s : State) : s.validate.busy = s.busy := rfl
@[simp] theorem validate_done (s : State) : s.validate.done = s.done := rfl
@[simp] theorem validate_valid (s : State) : s.validate.valid = true := rfl
@[simp] theorem validate_rej (s : State) : s.validate.rej = s.rej := rfl
@[simp] theorem validate_lenw (s : State) : s.validate.lenw = (le16 (s.fbuf.read 2) (s.fbuf.read 3) != s.rxSize) := rfl
@[simp] theorem validate_result (s : State) : s.validate.result = s.result := rfl
@[simp] theorem validate_phase (s : State) : s.validate.phase = s.phase := rfl
@[simp] theorem validate_txLabel (s : State) : s.validate.txLabel = s.txLabel := rfl
@[simp] theorem validate_txSize (s : State) : s.validate.txSize = s.txSize := rfl
@[simp] theorem validate_rxLabel (s : State) : s.validate.rxLabel = s.rxLabel := rfl
@[simp] theorem validate_rxSize (s : State) : s.validate.rxSize = s.rxSize := rfl
@[simp] theorem validate_flen (s : State) : s.validate.flen = s.flen := rfl
@[simp] theorem validate_txCount (s : State) : s.validate.txCount = s.txCount := rfl
@[simp] theorem validate_tcause (s : State) : s.validate.tcause = s.tcause := rfl
@[simp] theorem validate_tdir (s : State) : s.validate.tdir = s.tdir := rfl
@[simp] theorem validate_rxLenField (s : State) : s.validate.rxLenField = le16 (s.fbuf.read 2) (s.fbuf.read 3) := rfl
@[simp] theorem validate_opr (s : State) : s.validate.opr = s.opr := rfl
@[simp] theorem validate_pend (s : State) : s.validate.pend = s.pend := rfl
@[simp] theorem validate_txbuf (s : State) : s.validate.txbuf = s.txbuf := rfl
@[simp] theorem validate_fbuf (s : State) : s.validate.fbuf = s.fbuf := rfl
@[simp] theorem validate_schedule (s : State) : s.validate.schedule = s.schedule := rfl
@[simp] theorem validate_hostReads (s : State) : s.validate.hostReads = s.hostReads := rfl
@[simp] theorem validate_portSent (s : State) : s.validate.portSent = s.portSent := rfl

@[simp] theorem pushTurns_cfg (s : State) (ts : List Turn) : (s.pushTurns ts).cfg = s.cfg := rfl
@[simp] theorem pushTurns_busy (s : State) (ts : List Turn) : (s.pushTurns ts).busy = s.busy := rfl
@[simp] theorem pushTurns_done (s : State) (ts : List Turn) : (s.pushTurns ts).done = s.done := rfl
@[simp] theorem pushTurns_valid (s : State) (ts : List Turn) : (s.pushTurns ts).valid = s.valid := rfl
@[simp] theorem pushTurns_rej (s : State) (ts : List Turn) : (s.pushTurns ts).rej = s.rej := rfl
@[simp] theorem pushTurns_lenw (s : State) (ts : List Turn) : (s.pushTurns ts).lenw = s.lenw := rfl
@[simp] theorem pushTurns_result (s : State) (ts : List Turn) : (s.pushTurns ts).result = s.result := rfl
@[simp] theorem pushTurns_phase (s : State) (ts : List Turn) : (s.pushTurns ts).phase = s.phase := rfl
@[simp] theorem pushTurns_txLabel (s : State) (ts : List Turn) : (s.pushTurns ts).txLabel = s.txLabel := rfl
@[simp] theorem pushTurns_txSize (s : State) (ts : List Turn) : (s.pushTurns ts).txSize = s.txSize := rfl
@[simp] theorem pushTurns_rxLabel (s : State) (ts : List Turn) : (s.pushTurns ts).rxLabel = s.rxLabel := rfl
@[simp] theorem pushTurns_rxSize (s : State) (ts : List Turn) : (s.pushTurns ts).rxSize = s.rxSize := rfl
@[simp] theorem pushTurns_flen (s : State) (ts : List Turn) : (s.pushTurns ts).flen = s.flen := rfl
@[simp] theorem pushTurns_txCount (s : State) (ts : List Turn) : (s.pushTurns ts).txCount = s.txCount := rfl
@[simp] theorem pushTurns_tcause (s : State) (ts : List Turn) : (s.pushTurns ts).tcause = s.tcause := rfl
@[simp] theorem pushTurns_tdir (s : State) (ts : List Turn) : (s.pushTurns ts).tdir = s.tdir := rfl
@[simp] theorem pushTurns_rxLenField (s : State) (ts : List Turn) : (s.pushTurns ts).rxLenField = s.rxLenField := rfl
@[simp] theorem pushTurns_opr (s : State) (ts : List Turn) : (s.pushTurns ts).opr = s.opr := rfl
@[simp] theorem pushTurns_pend (s : State) (ts : List Turn) : (s.pushTurns ts).pend = s.pend := rfl
@[simp] theorem pushTurns_txbuf (s : State) (ts : List Turn) : (s.pushTurns ts).txbuf = s.txbuf := rfl
@[simp] theorem pushTurns_fbuf (s : State) (ts : List Turn) : (s.pushTurns ts).fbuf = s.fbuf := rfl
@[simp] theorem pushTurns_schedule (s : State) (ts : List Turn) : (s.pushTurns ts).schedule = ts ++ s.schedule := rfl
@[simp] theorem pushTurns_hostReads (s : State) (ts : List Turn) : (s.pushTurns ts).hostReads = s.hostReads := rfl
@[simp] theorem pushTurns_portSent (s : State) (ts : List Turn) : (s.pushTurns ts).portSent = s.portSent := rfl

@[simp] theorem popTurn_cfg (s : State) : s.popTurn.cfg = s.cfg := rfl
@[simp] theorem popTurn_busy (s : State) : s.popTurn.busy = s.busy := rfl
@[simp] theorem popTurn_done (s : State) : s.popTurn.done = s.done := rfl
@[simp] theorem popTurn_valid (s : State) : s.popTurn.valid = s.valid := rfl
@[simp] theorem popTurn_rej (s : State) : s.popTurn.rej = s.rej := rfl
@[simp] theorem popTurn_lenw (s : State) : s.popTurn.lenw = s.lenw := rfl
@[simp] theorem popTurn_result (s : State) : s.popTurn.result = s.result := rfl
@[simp] theorem popTurn_phase (s : State) : s.popTurn.phase = s.phase := rfl
@[simp] theorem popTurn_txLabel (s : State) : s.popTurn.txLabel = s.txLabel := rfl
@[simp] theorem popTurn_txSize (s : State) : s.popTurn.txSize = s.txSize := rfl
@[simp] theorem popTurn_rxLabel (s : State) : s.popTurn.rxLabel = s.rxLabel := rfl
@[simp] theorem popTurn_rxSize (s : State) : s.popTurn.rxSize = s.rxSize := rfl
@[simp] theorem popTurn_flen (s : State) : s.popTurn.flen = s.flen := rfl
@[simp] theorem popTurn_txCount (s : State) : s.popTurn.txCount = s.txCount := rfl
@[simp] theorem popTurn_tcause (s : State) : s.popTurn.tcause = s.tcause := rfl
@[simp] theorem popTurn_tdir (s : State) : s.popTurn.tdir = s.tdir := rfl
@[simp] theorem popTurn_rxLenField (s : State) : s.popTurn.rxLenField = s.rxLenField := rfl
@[simp] theorem popTurn_opr (s : State) : s.popTurn.opr = s.opr := rfl
@[simp] theorem popTurn_pend (s : State) : s.popTurn.pend = s.pend := rfl
@[simp] theorem popTurn_txbuf (s : State) : s.popTurn.txbuf = s.txbuf := rfl
@[simp] theorem popTurn_fbuf (s : State) : s.popTurn.fbuf = s.fbuf := rfl
@[simp] theorem popTurn_schedule (s : State) : s.popTurn.schedule = s.schedule.tail := rfl
@[simp] theorem popTurn_hostReads (s : State) : s.popTurn.hostReads = s.hostReads := rfl
@[simp] theorem popTurn_portSent (s : State) : s.popTurn.portSent = s.portSent := rfl

@[simp] theorem presentWord_cfg (s : State) (n w : Nat) : (s.presentWord n w).cfg = s.cfg := rfl
@[simp] theorem presentWord_busy (s : State) (n w : Nat) : (s.presentWord n w).busy = s.busy := rfl
@[simp] theorem presentWord_done (s : State) (n w : Nat) : (s.presentWord n w).done = s.done := rfl
@[simp] theorem presentWord_valid (s : State) (n w : Nat) : (s.presentWord n w).valid = s.valid := rfl
@[simp] theorem presentWord_rej (s : State) (n w : Nat) : (s.presentWord n w).rej = s.rej := rfl
@[simp] theorem presentWord_lenw (s : State) (n w : Nat) : (s.presentWord n w).lenw = s.lenw := rfl
@[simp] theorem presentWord_result (s : State) (n w : Nat) : (s.presentWord n w).result = s.result := rfl
@[simp] theorem presentWord_phase (s : State) (n w : Nat) : (s.presentWord n w).phase = s.phase := rfl
@[simp] theorem presentWord_txLabel (s : State) (n w : Nat) : (s.presentWord n w).txLabel = s.txLabel := rfl
@[simp] theorem presentWord_txSize (s : State) (n w : Nat) : (s.presentWord n w).txSize = s.txSize := rfl
@[simp] theorem presentWord_rxLabel (s : State) (n w : Nat) : (s.presentWord n w).rxLabel = s.rxLabel := rfl
@[simp] theorem presentWord_rxSize (s : State) (n w : Nat) : (s.presentWord n w).rxSize = s.rxSize := rfl
@[simp] theorem presentWord_flen (s : State) (n w : Nat) : (s.presentWord n w).flen = s.flen := rfl
@[simp] theorem presentWord_txCount (s : State) (n w : Nat) : (s.presentWord n w).txCount = s.txCount := rfl
@[simp] theorem presentWord_tcause (s : State) (n w : Nat) : (s.presentWord n w).tcause = s.tcause := rfl
@[simp] theorem presentWord_tdir (s : State) (n w : Nat) : (s.presentWord n w).tdir = s.tdir := rfl
@[simp] theorem presentWord_rxLenField (s : State) (n w : Nat) : (s.presentWord n w).rxLenField = s.rxLenField := rfl
@[simp] theorem presentWord_opr (s : State) (n w : Nat) : (s.presentWord n w).opr = s.opr := rfl
@[simp] theorem presentWord_pend (s : State) (n w : Nat) : (s.presentWord n w).pend = s.pend := rfl
@[simp] theorem presentWord_txbuf (s : State) (n w : Nat) : (s.presentWord n w).txbuf = s.txbuf := rfl
@[simp] theorem presentWord_fbuf (s : State) (n w : Nat) : (s.presentWord n w).fbuf = s.fbuf := rfl
@[simp] theorem presentWord_schedule (s : State) (n w : Nat) : (s.presentWord n w).schedule = .word (tableBytes n w) :: s.schedule := rfl
@[simp] theorem presentWord_hostReads (s : State) (n w : Nat) : (s.presentWord n w).hostReads = s.hostReads := rfl
@[simp] theorem presentWord_portSent (s : State) (n w : Nat) : (s.presentWord n w).portSent = s.portSent := rfl

end Sys2Proof.Machine.State
end

