-- ==== Sys2Proof/Laws/Ops.lean ====
section
/-! SUPPORT. One lemma per shared operation that says everything the operation can do; later proofs cite it instead of
unfolding the operation. -/

namespace Sys2Proof.Machine

/-- A register write stores one register of the TX descriptor, or some of RX_LABEL, RX_SIZE, FLEN with VALID cleared, or
nothing (R107). -/
theorem State.regWrite_cases (s : State) (o : Nat) (v : Byte) :
    s.regWrite o v = s ∨ (∃ l z, s.regWrite o v = { s with txLabel := l, txSize := z }) ∨
      ∃ l z n, s.regWrite o v = { s with rxLabel := l, rxSize := z, flen := n, valid := false } := by
  unfold State.regWrite
  split
  case h_11 => exact .inl rfl
  case h_1 => exact .inr (.inl ⟨v, s.txSize, rfl⟩)
  case h_2 => exact .inr (.inl ⟨s.txLabel, _, rfl⟩)
  case h_3 => exact .inr (.inl ⟨s.txLabel, _, rfl⟩)
  case h_4 => exact .inr (.inr ⟨v, s.rxSize, s.flen, rfl⟩)
  case h_5 => exact .inr (.inr ⟨s.rxLabel, _, s.flen, rfl⟩)
  case h_6 => exact .inr (.inr ⟨s.rxLabel, _, s.flen, rfl⟩)
  case h_7 => exact .inr (.inr ⟨s.rxLabel, s.rxSize, _, rfl⟩)
  case h_8 => exact .inr (.inr ⟨s.rxLabel, s.rxSize, _, rfl⟩)
  case h_9 => exact .inr (.inr ⟨s.rxLabel, s.rxSize, _, rfl⟩)
  case h_10 => exact .inr (.inr ⟨s.rxLabel, s.rxSize, _, rfl⟩)

/-- A write with BUSY = 0 outside CMD is a register write, a TXBUF store, an FBUF store with VALID cleared, or nothing
(R102). -/
theorem State.idleWrite_cases (s : State) (r : Region) (o : Nat) (v : Byte) :
    s.idleWrite r o v = s ∨ (∃ l z, s.idleWrite r o v = { s with txLabel := l, txSize := z }) ∨
      (∃ l z n, s.idleWrite r o v = { s with rxLabel := l, rxSize := z, flen := n, valid := false }) ∨
      s.idleWrite r o v = s.storeTx o v ∨ s.idleWrite r o v = (s.storeF o v).closeAperture := by
  cases r with
  | regs =>
    rcases s.regWrite_cases o v with h | h | h
    · exact .inl h
    · exact .inr (.inl h)
    · exact .inr (.inr (.inl h))
  | txbuf => exact .inr (.inr (.inr (.inl rfl)))
  | fbuf => exact .inr (.inr (.inr (.inr rfl)))
  | rxpay => exact .inl rfl

/-- A CMD write is rejected, or issues an operation with BUSY = 0 (R103 to R105). -/
theorem State.cmdWrite_cases (s : State) (v : Byte) :
    (s.cmdWrite v = s.reject ∧ (s.busy = true ∨ opOf v = none)) ∨
      ∃ op, s.busy = false ∧ opOf v = some op ∧ s.cmdWrite v = s.issue op := by
  unfold State.cmdWrite
  cases hb : s.busy with
  | true => exact .inl ⟨rfl, .inl rfl⟩
  | false =>
    cases ho : opOf v with
    | none => exact .inl ⟨rfl, .inr rfl⟩
    | some op => exact .inr ⟨op, rfl, rfl, rfl⟩

/-- An issue completes at once with DESC_ERROR or starts the operation (R103). -/
theorem State.issue_cases (s : State) (op : Op) :
    (s.descTooLarge op = true ∧ s.issue op = s.clearResults.complete .descError) ∨
      (s.descTooLarge op = false ∧
        s.issue op = { s.clearResults with opr := some op, busy := true, phase := op.firstPhase }) := by
  unfold State.issue
  cases h : s.descTooLarge op with
  | true => exact .inl ⟨rfl, rfl⟩
  | false => exact .inr ⟨rfl, rfl⟩

/-- A host write is a CMD write, is dropped while BUSY = 1, or is an idle write (R102). -/
theorem State.hostWrite_cases (s : State) (a : HostAddr) (v : Byte) :
    (regionOf a = .regs ∧ offsetOf a = 0 ∧ s.hostWrite a v = s.cmdWrite v) ∨
      (¬(regionOf a = .regs ∧ offsetOf a = 0) ∧ s.busy = true ∧ s.hostWrite a v = s) ∨
      (¬(regionOf a = .regs ∧ offsetOf a = 0) ∧ s.busy = false ∧
        s.hostWrite a v = s.idleWrite (regionOf a) (offsetOf a) v) := by
  unfold State.hostWrite
  by_cases h : regionOf a = .regs ∧ offsetOf a = 0
  · exact .inl ⟨h.1, h.2, if_pos h⟩
  · rw [if_neg h]
    cases hb : s.busy with
    | true => exact .inr (.inl ⟨h, rfl, rfl⟩)
    | false => exact .inr (.inr ⟨h, rfl, rfl⟩)

/-- EncStep of ENCODE. -/
theorem State.encStep_encode {s : State} (h : s.opr = some .encode) :
    s.encStep = (s.loadFrame s.requestFrame).complete .ok := if_pos h

/-- EncStep of any other operation. -/
theorem State.encStep_transact {s : State} (h : s.opr ≠ some .encode) :
    s.encStep = (s.loadFrame s.requestFrame).sendTxReq s.requestFrame := if_neg h

@[simp] theorem State.length_requestFrame (s : State) : s.requestFrame.length = s.txSize.toNat + 5 := by
  simp [State.requestFrame]

/-- Check answers OK exactly for a frame of the expected length, markers and label (R122). -/
theorem check_eq_ok_iff (m : Memory) (n : Nat) (l : Byte) (z : Nat) :
    check m n l z = .ok ↔
      n = z + overhead ∧ m.read 0 = startByte ∧ m.read (n - 1) = endByte ∧ m.read 1 = l := by
  unfold check
  split
  · next h => simp [h]
  · next h =>
    split
    · next h2 => simp only [reduceCtorEq, false_iff]; tauto
    · next h2 => split <;> simp_all

/-- Check never answers NONE, TRANSPORT_ERROR or DESC_ERROR (R122, R182). -/
theorem check_ne (m : Memory) (n : Nat) (l : Byte) (z : Nat) :
    check m n l z ≠ .none ∧ check m n l z ≠ .transportError ∧ check m n l z ≠ .descError := by
  unfold check
  split
  · simp
  · split
    · simp
    · split <;> simp

/-- Everything a step can do when it answers a next state. -/
theorem step_next_cases {s t : State} (h : step s = .next t) :
    (∃ bytes i, s.nextTurn = .word bytes ∧ decode bytes = .ok i ∧ exec i s.popTurn = .next t) ∨
      (s.nextTurn = .core ∧ t = s.popTurn.coreTurn) ∨
      ∃ d, s.nextTurn = .reset d ∧ t = s.popTurn.resetEvent d := by
  unfold step at h
  split at h
  · next bytes hn =>
    split at h
    · next i hd => exact .inl ⟨bytes, i, hn, hd, h⟩
    · simp at h
  · next hn => exact .inr (.inl ⟨hn, (Host.Outcome.next.inj h).symm⟩)
  · next d hn => exact .inr (.inr ⟨d, hn, (Host.Outcome.next.inj h).symm⟩)

/-! ### The host's programs of WR8 writes -/

/-- Host writes in order: what a program of WR8 writes leaves when all of them have run. -/
def State.hostWrites (s : State) : List (HostAddr × Byte) → State
  | [] => s
  | w :: ws => State.hostWrites (s.hostWrite w.1 w.2) ws

/-- The bus-op word of a write decodes to that write (R89). -/
theorem decode_wr8 (a : HostAddr) (v : Byte) : decode (encode (.wr8 a v)) = .ok (.wr8 a v) := by
  have e : decode (encode (.wr8 a v)) = decodeBusOp (busOpWord 1 a v) := congrArg decodeBusOp (le32_byteOf _)
  have n : (busOpWord 1 a v).toNat = 2^26 + 2^8 * a.toNat + v.toNat := by
    have := a.isLt
    have := v.isLt
    rw [busOpWord, BitVec.toNat_append, BitVec.toNat_append, BitVec.toNat_append, Nat.shiftLeft_eq, Nat.shiftLeft_eq,
      Nat.shiftLeft_eq, Nat.mul_comm a.toNat, ← Nat.two_pow_add_eq_or_of_lt (by omega), Nat.mul_comm _ (2^(18 + 8)),
      ← Nat.two_pow_add_eq_or_of_lt (by omega)]
    simp
    omega
  rw [e]
  generalize busOpWord 1 a v = w at n
  have := a.isLt
  have := v.isLt
  have h27 : w.extractLsb' 27 5 = 0 := by
    apply BitVec.eq_of_toNat_eq
    simp [BitVec.extractLsb'_toNat, Nat.shiftRight_eq_div_pow]
    omega
  have h26 : w.extractLsb' 26 1 = 1 := by
    apply BitVec.eq_of_toNat_eq
    simp [BitVec.extractLsb'_toNat, Nat.shiftRight_eq_div_pow]
    omega
  have h8 : w.extractLsb' 8 18 = a := by
    apply BitVec.eq_of_toNat_eq
    simp [BitVec.extractLsb'_toNat, Nat.shiftRight_eq_div_pow]
    omega
  have h0 : w.extractLsb' 0 8 = v := by
    apply BitVec.eq_of_toNat_eq
    simp [BitVec.extractLsb'_toNat]
    omega
  simp [decodeBusOp, h27, h26, h8, h0]

/-- A host write leaves the schedule alone. -/
@[simp] theorem State.hostWrite_schedule (s : State) (a : HostAddr) (v : Byte) :
    (s.hostWrite a v).schedule = s.schedule := by
  rcases s.hostWrite_cases a v with ⟨_, _, e⟩ | ⟨_, _, e⟩ | ⟨_, _, e⟩ <;> rw [e]
  · rcases s.cmdWrite_cases v with ⟨e, _⟩ | ⟨op, _, _, e⟩ <;> rw [e]
    · rfl
    · rcases s.issue_cases op with ⟨_, e⟩ | ⟨_, e⟩ <;> rw [e] <;> rfl
  · rcases s.idleWrite_cases (regionOf a) (offsetOf a) v with e | ⟨_, _, e⟩ | ⟨_, _, _, e⟩ | e | e <;> rw [e] <;> rfl

/-- A host write does not look at the schedule. -/
theorem State.hostWrite_withSchedule (s : State) (a : HostAddr) (v : Byte) (l : List Turn) :
    ({ s with schedule := l } : State).hostWrite a v = { s.hostWrite a v with schedule := l } := by
  have issue : ∀ op, ({ s with schedule := l } : State).issue op = { s.issue op with schedule := l } := by
    intro op
    have d : ({ s with schedule := l } : State).descTooLarge op = s.descTooLarge op := rfl
    unfold State.issue
    rw [d]
    split <;> rfl
  unfold State.hostWrite State.cmdWrite State.idleWrite State.regWrite
  repeat' split
  all_goals first | rfl | exact issue _

/-- The turn of a write at the head of the schedule runs it. -/
theorem step_writeTurn {s : State} {w : HostAddr × Byte} {rest : List Turn} (h : s.schedule = writeTurn w :: rest) :
    step s = .next { s.hostWrite w.1 w.2 with schedule := rest } := by
  have hs : s.popTurn = { s with schedule := rest } := by simp [State.popTurn, h]
  have e : step s = exec (.wr8 w.1 w.2) s.popTurn := by
    simp [step, State.nextTurn, h, writeTurn, decode_wr8]
  rw [e, hs]
  exact congrArg Host.Outcome.next (s.hostWrite_withSchedule w.1 w.2 rest)

/-- A program of writes takes one step per write and leaves the turns behind it. -/
theorem run_writes (ws : List (HostAddr × Byte)) : ∀ {s : State} {rest : List Turn},
    s.schedule = ws.map writeTurn ++ rest → run ws.length s = .next { s.hostWrites ws with schedule := rest } := by
  induction ws with
  | nil =>
    intro s rest h
    exact congrArg Host.Outcome.next (by rw [← show s.schedule = rest from h]; rfl)
  | cons w ws ih =>
    intro s rest h
    have e : run (ws.length + 1) s = run ws.length { s.hostWrite w.1 w.2 with schedule := ws.map writeTurn ++ rest } := by
      simp [run, step_writeTurn h]
    have c : ∀ (vs : List (HostAddr × Byte)) (u : State) (l : List Turn),
        { ({ u with schedule := l } : State).hostWrites vs with schedule := rest } =
          { u.hostWrites vs with schedule := rest } := by
      intro vs
      induction vs with
      | nil => intro u l; rfl
      | cons v vs ih2 =>
        intro u l
        rw [State.hostWrites, State.hostWrites, State.hostWrite_withSchedule]
        exact ih2 _ l
    rw [List.length_cons, e, ih rfl]
    exact congrArg Host.Outcome.next (c ws _ _)

/-- A program's own step and the steps of its remaining writes leave what the writes in order leave. -/
theorem run_hostProgram (s : State) (w : HostAddr × Byte) (ws : List (HostAddr × Byte)) :
    run ws.length (s.hostProgram (w :: ws)) = .next (s.hostWrites (w :: ws)) := by
  have h : (s.hostProgram (w :: ws)).schedule = ws.map writeTurn ++ s.schedule := by
    simp [State.hostProgram, State.pushTurns]
  rw [run_writes ws h]
  have c : ∀ (vs : List (HostAddr × Byte)) (u : State) (l : List Turn),
      { ({ u with schedule := l } : State).hostWrites vs with schedule := u.schedule } = u.hostWrites vs := by
    intro vs
    induction vs with
    | nil => intro u l; rfl
    | cons v vs ih =>
      intro u l
      rw [State.hostWrites, State.hostWrites, State.hostWrite_withSchedule, ← u.hostWrite_schedule v.1 v.2]
      exact ih _ l
  have e := c ws (s.hostWrite w.1 w.2) (ws.map writeTurn ++ s.schedule)
  rw [State.hostWrite_schedule] at e
  exact congrArg Host.Outcome.next (by
    rw [State.hostProgram, State.pushTurns, State.hostWrite_schedule]
    exact e)

end Sys2Proof.Machine
end

