-- ==== Sys2Proof/Laws/PerInstr.lean ====
section
/-! SUPPORT. Statements per instruction. The family EncodeBounds: the encoding of a well-formed instruction has at least one
byte and at most 65537, a tag byte before a frame of the largest instance's MAX_FRAME (R6, R160). -/

namespace Sys2Proof.Laws.EncodeBounds

/-- The encoding of a well-formed instruction has 1 to 65537 bytes. -/
def Statement (i : Instr) : Prop :=
  i.wellFormed = true → 1 ≤ (encode i).length ∧ (encode i).length ≤ 65537

/-- An encoding of n + 1 bytes, n at most 9. -/
theorem of_length {i : Instr} (n : Fin 10) (h : (encode i).length = n.val + 1) : Statement i := by
  intro _
  have := n.isLt
  omega

/-- A tag byte before a frame of a legal length. -/
theorem of_frame {i : Instr} {f : List Byte} (h : i.wellFormed = legalFrameLength f.length)
    (e : (encode i).length = f.length + 1) : Statement i := by
  intro hw
  rw [h] at hw
  have := of_decide_eq_true hw
  omega

theorem rd8 (addr : HostAddr) (data : Byte) : Statement (.rd8 addr data) := of_length 3 rfl

theorem wr8 (addr : HostAddr) (v : Byte) : Statement (.wr8 addr v) := of_length 3 rfl

theorem cmdEncode : Statement .cmdEncode := of_length 0 rfl

theorem cmdDecode : Statement .cmdDecode := of_length 0 rfl

theorem cmdTransact : Statement .cmdTransact := of_length 0 rfl

theorem cmdReserved00 : Statement .cmdReserved00 := of_length 0 rfl

theorem cmdReserved04 (low : BitVec 2) : Statement (.cmdReserved04 low) := of_length 0 rfl

theorem cmdReserved08 (low : BitVec 3) : Statement (.cmdReserved08 low) := of_length 0 rfl

theorem cmdReserved10 (low : BitVec 4) : Statement (.cmdReserved10 low) := of_length 0 rfl

theorem cmdReserved20 (low : BitVec 5) : Statement (.cmdReserved20 low) := of_length 0 rfl

theorem cmdReserved40 (low : BitVec 6) : Statement (.cmdReserved40 low) := of_length 0 rfl

theorem cmdReserved80 (low : BitVec 7) : Statement (.cmdReserved80 low) := of_length 0 rfl

theorem txReq (f : List Byte) : Statement (.txReq f) := of_frame rfl rfl

theorem rxReq (n : Nat) : Statement (.rxReq n) := of_length 4 rfl

theorem wrCount (c : U32) : Statement (.wrCount c) := of_length 4 rfl

theorem wrErr (e : Byte) : Statement (.wrErr e) := of_length 1 rfl

theorem rdData (b : List Byte) : Statement (.rdData b) := of_frame rfl rfl

theorem rdErr (e : Byte) : Statement (.rdErr e) := of_length 1 rfl

theorem getParametersRequest (p : U16) : Statement (.getParametersRequest p) := of_length 6 rfl

theorem getParametersReply (a b c d r : Byte) : Statement (.getParametersReply a b c d r) := of_length 9 rfl

theorem getSerialNumberRequest : Statement .getSerialNumberRequest := of_length 4 rfl

theorem getSerialNumberReply (s0 s1 s2 s3 : Byte) : Statement (.getSerialNumberReply s0 s1 s2 s3) := of_length 8 rfl

end Sys2Proof.Laws.EncodeBounds
end

