-- ==== Sys2Proof/Tests/Slice0.lean ====
section
/-! SUPPORT. The model's own tests. Expected values are those of spec/95_test_vectors.md (named H, E, D, T, RST, P there) or of
the rule named; every vector there has MAX_PAYLOAD = 16 and unwritten buffer bytes 0xAA, as `State.reset` has. The last
part shows, for each statement with hypotheses, a concrete state and operands that meet all of them together. -/

namespace Sys2Proof.Tests

open Sys2Proof Sys2Proof.Machine

/-! ### Helpers -/

/-- What `f` sees in the next state, if there is one. -/
def seen {α : Type} (o : Host.Outcome State Fault Refusal) (f : State → α) : Option α :=
  match o with
  | .next t => some (f t)
  | .fault _ => none
  | .refused _ => none

/-- The frame of vector D1 as the cells of a buffer. -/
def replyCells : Memory := [(0, 0x7E), (1, 0x0A), (2, 0x04), (3, 0x00), (4, 0x01), (5, 0x02), (6, 0x03), (7, 0x04), (8, 0xE7)]

/-- The same frame as bytes. -/
def replyBytes : List Byte := [0x7E, 0x0A, 0x04, 0x00, 0x01, 0x02, 0x03, 0x04, 0xE7]

/-- The request frame of vectors T1 to T11. -/
def requestCells : Memory := [(0, 0x7E), (1, 0x0A), (2, 0x00), (3, 0x00), (4, 0xE7)]

/-- Idle, with the descriptors of section 2.4: TX = (0x0A, 0), RX = (0x0A, 4). -/
def idle : State := { State.reset with txLabel := 0x0A, rxLabel := 0x0A, rxSize := 4 }

/-- TRANSACT issued, EncStep not yet run. -/
def encoding : State := { idle with busy := true, opr := some .transact, phase := .enc }

/-- The request is with the transport (T1 after EncStep). -/
def writing : State :=
  { idle with
    busy := true, opr := some .transact, phase := .txw, pend := .tx, flen := 5, fbuf := requestCells
    portSent := [.txReq [0x7E, 0x0A, 0x00, 0x00, 0xE7]] }

/-- The full write count was accepted (T14 before RdData). -/
def reading : State :=
  { writing with
    phase := .rxw, pend := .rx, txCount := 5
    portSent := [.txReq [0x7E, 0x0A, 0x00, 0x00, 0xE7], .rxReq 9] }

/-- The reply is in FBUF, DecStep not yet run. -/
def checking : State := { reading with phase := .dec, pend := .none, flen := 9, fbuf := replyCells }

/-- After vector D1: a validated frame. -/
def validated : State :=
  { idle with
    done := true, valid := true, result := .ok, flen := 9, rxLenField := 4, fbuf := replyCells }

/-- A reply frame in FBUF, not yet checked (D1 before the issue). -/
def loaded : State := { idle with flen := 9, fbuf := replyCells }

/-- ENCODE issued (H6). -/
def encodeIssued : State :=
  { State.reset with txLabel := 0x03, txSize := 2, txbuf := [(0, 0x00), (1, 0x00)], busy := true, opr := some .encode, phase := .enc }

/-! ### Well-formedness: an ill-formed term for each check -/

theorem test_wf_rd8_data : Instr.wellFormed (.rd8 0 0) = true ∧ Instr.wellFormed (.rd8 0 1) = false := by decide

theorem test_wf_txReq_length : Instr.wellFormed (.txReq [1, 2, 3, 4]) = false ∧ Instr.wellFormed (.txReq [1, 2, 3, 4, 5]) = true := by
  decide

theorem test_wf_rxReq_length : Instr.wellFormed (.rxReq 4) = false ∧ Instr.wellFormed (.rxReq 5) = true ∧
    Instr.wellFormed (.rxReq 65536) = true ∧ Instr.wellFormed (.rxReq 65537) = false := by decide

theorem test_wf_rdData_length : Instr.wellFormed (.rdData [1, 2, 3, 4]) = false ∧ Instr.wellFormed (.rdData [1, 2, 3, 4, 5]) = true := by
  decide

theorem test_wf_upper_length : legalFrameLength 65536 = true ∧ legalFrameLength 65537 = false := by decide

/-! ### Decoding, from words written out by hand -/

/-- R89: W = 0, ADDR = 0x00001, DATA = 0 is 0 | 00 0000 0000 0000 0001 | 0000 0000; program P1's word for rd8 STATUS. -/
theorem test_decode_rd8 : decodeTableWord 32 0b000000000000000000100000000 = some (.rd8 0x00001 0) := by decide

/-- R89: W = 1, ADDR = 0x20008, DATA = 0xE7, program P2's word for wr8 FBUF+8, 0xE7. -/
theorem test_decode_wr8 : decodeTableWord 32 0b110000000000000100011100111 = some (.wr8 0x20008 0xE7) := by decide

/-- R86. -/
theorem test_decode_cmdEncode : decode [0b00000001] = .ok .cmdEncode := by decide
theorem test_decode_cmdDecode : decode [0b00000010] = .ok .cmdDecode := by decide
theorem test_decode_cmdTransact : decode [0b00000011] = .ok .cmdTransact := by decide
theorem test_decode_cmdReserved00 : decode [0b00000000] = .ok .cmdReserved00 := by decide
theorem test_decode_cmdReserved04 : decode [0b00000110] = .ok (.cmdReserved04 0b10) := by decide
theorem test_decode_cmdReserved08 : decode [0b00001001] = .ok (.cmdReserved08 0b001) := by decide
theorem test_decode_cmdReserved10 : decode [0b00010001] = .ok (.cmdReserved10 0b0001) := by decide
theorem test_decode_cmdReserved20 : decode [0b00111110] = .ok (.cmdReserved20 0b11110) := by decide
theorem test_decode_cmdReserved40 : decode [0b01000011] = .ok (.cmdReserved40 0b000011) := by decide
theorem test_decode_cmdReserved80 : decode [0b11000001] = .ok (.cmdReserved80 0b1000001) := by decide

/-- The transport messages in the layout of notes/assumptions/11.md. -/
theorem test_decode_txReq : decode [0xA0, 0x7E, 0x0A, 0x00, 0x00, 0xE7] = .ok (.txReq [0x7E, 0x0A, 0x00, 0x00, 0xE7]) := by decide
theorem test_decode_rxReq : decode [0xA1, 0x09, 0x01, 0x00, 0x00] = .ok (.rxReq 265) := by decide
theorem test_decode_wrCount : decode [0xA2, 0x04, 0x03, 0x02, 0x01] = .ok (.wrCount 0x01020304) := by decide
theorem test_decode_wrErr : decode [0xA3, 0x05] = .ok (.wrErr 0x05) := by decide
theorem test_decode_rdData : decode (0xA4 :: replyBytes) = .ok (.rdData replyBytes) := by decide
theorem test_decode_rdErr : decode [0xA5, 0x21] = .ok (.rdErr 0x21) := by decide

/-- R141 to R144, the frames of section 2.5; a u16 field is little-endian (R83). -/
theorem test_decode_getParametersRequest :
    decode [0x7E, 0x03, 0x02, 0x00, 0xEF, 0xBE, 0xE7] = .ok (.getParametersRequest 0xBEEF) := by decide
theorem test_decode_getParametersReply :
    decode [0x7E, 0x03, 0x05, 0x00, 0x11, 0x22, 0x33, 0x44, 0x55, 0xE7] = .ok (.getParametersReply 0x11 0x22 0x33 0x44 0x55) := by
  decide
theorem test_decode_getSerialNumberRequest : decode [0x7E, 0x0A, 0x00, 0x00, 0xE7] = .ok .getSerialNumberRequest := by decide
theorem test_decode_getSerialNumberReply : decode replyBytes = .ok (.getSerialNumberReply 1 2 3 4) := by decide

/-- Bytes that are no word are rejected by name: S3's end marker, bit 27 of a bus-op word, no byte, an unknown tag, a
message operand of another length. -/
theorem test_decode_rejects :
    decode [0x7E, 0x0A, 0x04, 0x00, 0x01, 0x02, 0x03, 0x04, 0xE8] = .error .unknownFrame ∧
      decode [0x00, 0x00, 0x00, 0x08] = .error .busOpHighBits ∧ decode [] = .error .empty ∧
      decode [0x55, 0x00] = .error .unknownTag ∧ decode [0xA3, 0x00, 0x00] = .error .messageLength := by decide

/-! ### One step of each instruction -/

/-- H1: CAP reads 10 00. -/
theorem test_rd8_cap : seen (exec (.rd8 0x00018 0) State.reset) (·.hostReads) = some [0x10] := by decide

/-- H16: FLEN is little-endian. -/
theorem test_rd8_flen : seen (exec (.rd8 0x0000D 0) { idle with flen := 0x04030201 }) (·.hostReads) = some [0x02] := by decide

/-- H10: a TX_LABEL write leaves VALID alone. -/
theorem test_wr8_txLabel : seen (exec (.wr8 0x00004 0x01) validated) (fun t => (t.txLabel, t.status)) = some (0x01, 0x06) := by decide

/-- H8: an FBUF write outside the storage changes no byte and clears VALID. -/
theorem test_wr8_fbuf_outside : seen (exec (.wr8 0x2FFFF 0x00) validated) (fun t => (t.fbuf == replyCells, t.status)) = some (true, 0x02) := by
  decide

/-- H12: TX_SIZE = MAX_PAYLOAD + 1. -/
theorem test_cmdEncode_descError :
    seen (exec .cmdEncode { idle with txSize := 17 }) (fun t => (t.result, t.status, t.phase)) = some (.descError, 0x02, .idle) := by
  decide

/-- H13: TX_SIZE = MAX_PAYLOAD. -/
theorem test_cmdEncode_accepted :
    seen (exec .cmdEncode { idle with txSize := 16 }) (fun t => (t.status, t.phase)) = some (0x01, .enc) := by decide

/-- H14: DECODE does not check TX_SIZE. -/
theorem test_cmdDecode_ignores_tx :
    seen (exec .cmdDecode { loaded with txSize := 0xFFFF }) (fun t => (t.status, t.phase)) = some (0x01, .dec) := by decide

/-- D17. -/
theorem test_cmdDecode_descError :
    seen (exec .cmdDecode { idle with rxSize := 17 }) (fun t => (t.result, t.status)) = some (.descError, 0x02) := by decide

/-- H15: no TxReq is sent. -/
theorem test_cmdTransact_descError :
    seen (exec .cmdTransact { idle with rxSize := 17 }) (fun t => (t.result, t.status, t.portSent)) = some (.descError, 0x02, []) := by
  decide

/-- P6: a TRANSACT issued while busy is rejected. -/
theorem test_cmdTransact_busy : seen (exec .cmdTransact writing) (fun t => (t.status, t.phase)) = some (0x09, .txw) := by decide

/-- H4. -/
theorem test_cmdReserved00 : seen (exec .cmdReserved00 State.reset) (fun t => (t.status, t.result, t.phase)) = some (0x08, .none, .idle) := by
  decide

/-- H5: after S1, STATUS 0x02 becomes 0x0A and RESULT stays OK. -/
theorem test_cmdReserved04 :
    seen (exec (.cmdReserved04 0) { idle with done := true, result := .ok }) (fun t => (t.status, t.result)) = some (0x0A, .ok) := by
  decide

/-- R104, on the other reserved rows. -/
theorem test_cmdReserved08 : seen (exec (.cmdReserved08 7) State.reset) (·.status) = some 0x08 := by decide
theorem test_cmdReserved10 : seen (exec (.cmdReserved10 0) State.reset) (·.status) = some 0x08 := by decide
theorem test_cmdReserved20 : seen (exec (.cmdReserved20 31) State.reset) (·.status) = some 0x08 := by decide
theorem test_cmdReserved40 : seen (exec (.cmdReserved40 1) State.reset) (·.status) = some 0x08 := by decide
theorem test_cmdReserved80 : seen (exec (.cmdReserved80 0x7F) State.reset) (·.status) = some 0x08 := by decide

/-- T1: the frame sent; another frame is not the block's to send. -/
theorem test_txReq :
    seen (exec (.txReq [0x7E, 0x0A, 0x00, 0x00, 0xE7]) encoding) (fun t => (t.phase, t.flen, t.fbuf == requestCells)) =
      some (.txw, 5, true) := by decide
theorem test_txReq_other : seen (exec (.txReq [0x7E, 0x0B, 0x00, 0x00, 0xE7]) encoding) (·.phase) = some .enc := by decide

/-- T1: RxReq(9). -/
theorem test_rxReq :
    seen (exec (.rxReq 9) writing) (fun t => (t.phase, t.portSent)) =
      some (.rxw, [.txReq [0x7E, 0x0A, 0x00, 0x00, 0xE7], .rxReq 9]) := by decide
theorem test_rxReq_other : seen (exec (.rxReq 10) writing) (·.phase) = some .txw := by decide

/-- T2 and T5. -/
theorem test_wrCount_short :
    seen (exec (.wrCount 4) writing) (fun t => (t.result, t.status, t.txCount, t.portSent.length)) = some (.lengthError, 0x02, 4, 1) := by
  decide
theorem test_wrCount_max :
    seen (exec (.wrCount 0xFFFFFFFF) writing) (fun t => (t.result, t.txCount)) = some (.lengthError, 0xFFFFFFFF) := by decide

/-- T6. -/
theorem test_wrErr :
    seen (exec (.wrErr 0x05) writing) (fun t => (t.result, t.status, t.txCount, t.tcause, t.tdir)) =
      some (.transportError, 0x02, 0, 0x05, false) := by decide

/-- T10: the reply is stored as it came. -/
theorem test_rdData :
    seen (exec (.rdData [0x01, 0x02, 0x03, 0x04, 0xE7, 0x7E, 0x0A, 0x04, 0x00]) reading)
      (fun t => (t.phase, t.flen, t.fbuf.read 0, t.fbuf.read 8)) = some (.dec, 9, 0x01, 0x00) := by decide

/-- T15: a late RdData after RESET is dropped. -/
theorem test_rdData_late : seen (exec (.rdData replyBytes) State.reset) (fun t => t == State.reset) = some true := by decide

/-- T7. -/
theorem test_rdErr :
    seen (exec (.rdErr 0x21) reading) (fun t => (t.result, t.txCount, t.tcause, t.tdir, t.flen)) =
      some (.transportError, 5, 0x21, true, 5) := by decide

/-- E3, its host program: wr8 TX_LABEL, then the words of wr16 TX_SIZE, 2 and of wrbuf TXBUF, 0x02, 0x01 (R91). -/
theorem test_getParametersRequest :
    seen (exec (.getParametersRequest 0x0102) State.reset) (fun t => (t.txLabel, t.schedule)) =
      some (0x03, [0x4000602, 0x4000700, 0x5000002, 0x5000101].map fun w => .word (tableBytes 32 w)) := by decide

/-- The reply type of P5 as a host program: FBUF holds the frame of D13, FLEN is 10. -/
theorem test_getParametersReply :
    seen (exec (.getParametersReply 0x11 0x22 0x33 0x44 0x55) State.reset) (fun t => (t.rxLabel, t.schedule)) =
      some (0x03, [0x4000A05, 0x4000B00, 0x600007E, 0x6000103, 0x6000205, 0x6000300, 0x6000411, 0x6000522, 0x6000633,
        0x6000744, 0x6000855, 0x60009E7, 0x4000C0A, 0x4000D00, 0x4000E00, 0x4000F00].map fun w =>
          .word (tableBytes 32 w)) := by decide

/-- P3's first lines; a turn that was scheduled follows the program. -/
theorem test_getSerialNumberRequest :
    seen (exec .getSerialNumberRequest { State.reset with schedule := [.core] }) (fun t => (t.txLabel, t.txSize, t.schedule)) =
      some (0x0A, 0, [.word (tableBytes 32 0x4000600), .word (tableBytes 32 0x4000700), .core]) := by decide

/-- The words of P2 up to the issue. -/
theorem test_getSerialNumberReply :
    seen (exec (.getSerialNumberReply 1 2 3 4) State.reset) (fun t => (t.rxLabel, t.schedule)) =
      some (0x0A, [0x4000A04, 0x4000B00, 0x600007E, 0x600010A, 0x6000204, 0x6000300, 0x6000401, 0x6000502, 0x6000603,
        0x6000704, 0x60008E7, 0x4000C09, 0x4000D00, 0x4000E00, 0x4000F00].map fun w => .word (tableBytes 32 w)) := by
  decide

/-! ### The CORE's steps, RESET and the fetch -/

/-- H6, E1: EncStep of an ENCODE during which a command was rejected. -/
theorem test_encStep :
    ({ encodeIssued with rej := true } : State).coreTurn.status = 0x0A ∧
      encodeIssued.coreTurn.fbuf.readList 0 7 = [0x7E, 0x03, 0x02, 0x00, 0x00, 0x00, 0xE7] := by decide

/-- T11: LENGTH_LE = 8 validates with LENW = 1. -/
theorem test_decStep_lenw :
    ({ checking with fbuf := checking.fbuf.write 2 0x08 } : State).coreTurn.status = 0x16 := by decide

/-- D8: markers and label wrong, check 2 wins. -/
theorem test_decStep_frameError :
    ({ checking with fbuf := [(0, 0x00), (1, 0x0B)] } : State).coreTurn.result = .frameError := by decide

/-- RST4: RESET in PHASE = ENC ends the operation without a result. -/
theorem test_reset :
    (encodeIssued.resetEvent ⟨[], []⟩).status = 0x00 ∧ (encodeIssued.resetEvent ⟨[], []⟩).result = .none := by decide

/-- The word wr8 TX_LABEL, 0x03 of program P1 runs as the first step after reset. -/
theorem test_fetch : seen (step (State.reset.withFetchWord 32 0x4000403)) (·.txLabel) = some 0x03 := by decide

/-! ### A concrete instance of the hypotheses of each statement that has some -/

theorem witness_DecodeOfEncodeIsTheInstruction :
    Instr.wellFormed (.rdData [0, 0, 0, 0, 0]) = true ∧ Instr.wellFormed (.rxReq 65536) = true ∧
      Instr.wellFormed (.rd8 0x3FFFF 0) = true := by decide

theorem witness_AcceptedBytesAreTheEncoding : decode [0xA2, 0xFF, 0xFF, 0xFF, 0xFF] = .ok (.wrCount 0xFFFFFFFF) := by decide

theorem witness_CmdBytesDecodeToTheirOperation :
    ((0x00 : Byte) ≠ 0x01 ∧ (0x00 : Byte) ≠ 0x02 ∧ (0x00 : Byte) ≠ 0x03) ∧
      ((0x04 : Byte) ≠ 0x01 ∧ (0x04 : Byte) ≠ 0x02 ∧ (0x04 : Byte) ≠ 0x03) ∧
      (0xFF : Byte) ≠ 0x01 ∧ (0xFF : Byte) ≠ 0x02 ∧ (0xFF : Byte) ≠ 0x03 := by decide

/-- One state and rest for each clause. -/
theorem witness_StepRunsTheScheduledTurn :
    (({ idle with schedule := [.word [0x01], .core] } : State).schedule = .word [0x01] :: [.core] ∧
        decode [0x01] = .ok .cmdEncode ∧ Instr.cmdEncode.wellFormed = true) ∧
      ({ idle with schedule := [.core] } : State).schedule = .core :: [] ∧
      ({ idle with schedule := [.reset ⟨[1], []⟩] } : State).schedule = .reset ⟨[1], []⟩ :: [] ∧ idle.schedule = [] := by decide

theorem witness_PresentedTableWordRunsNext : decodeTableWord 8 0xFF = some (.cmdReserved80 0x7F) := by decide

theorem witness_DecodableTurnsAnswerANextState :
    ({ writing with schedule := [.word [0xA3, 0x05]] } : State).nextTurn.decodable = true := by decide

theorem witness_CapacityIsConstant : ∃ t, step { idle with schedule := [.reset ⟨[], []⟩] } = .next t := ⟨_, rfl⟩

/-- The last byte of each storage and the first one past it, and the payload's last byte and the first past it. -/
theorem witness_Rd8ReturnsTheByteOfItsRegion :
    (validated.hostRead 0x1000F = 0xAA ∧ validated.hostRead 0x10010 = 0x00) ∧
      (validated.hostRead 0x20014 = 0xAA ∧ validated.hostRead 0x20015 = 0x00) ∧
      validated.hostRead 0x30003 = 0x04 ∧ validated.hostRead 0x30004 = 0x00 := by decide

theorem witness_RegisterMapReads : 0x1A ≤ 0x1A ∧ idle.regRead 0x19 = 0x00 ∧ idle.regRead 0x18 = 0x10 := by decide

/-- Offsets 15 and 16 of TXBUF. -/
theorem witness_Wr8StoresInTxbuf :
    idle.busy = false ∧ idle.txbuf.wf = true ∧
      ((0x1000F : HostAddr).toNat / 65536 = 1 ∧ (0x1000F : HostAddr).toNat % 65536 < idle.cfg.maxPayload) ∧
      (0x10010 : HostAddr).toNat / 65536 = 1 ∧ idle.cfg.maxPayload ≤ (0x10010 : HostAddr).toNat % 65536 := by decide

/-- Offsets 20 and 21 of FBUF. -/
theorem witness_Wr8StoresInFbufAndClosesTheAperture :
    validated.busy = false ∧ validated.fbuf.wf = true ∧
      ((0x20014 : HostAddr).toNat / 65536 = 2 ∧ (0x20014 : HostAddr).toNat % 65536 < validated.cfg.maxPayload + 5) ∧
      (0x20015 : HostAddr).toNat / 65536 = 2 ∧ validated.cfg.maxPayload + 5 ≤ (0x20015 : HostAddr).toNat % 65536 := by decide

/-- Each FLEN byte, and the read-only offsets next to the writable ones and the last offset. -/
theorem witness_Wr8WritesTheRegisters :
    validated.busy = false ∧ 3 < 4 ∧
      ∀ a ∈ [(0x00001 : HostAddr), 0x00005, 0x00009, 0x00010, 0x0FFFF], a.toNat < 65536 ∧
        a.toNat ∉ [0x00, 0x04, 0x06, 0x07, 0x08, 0x0A, 0x0B, 0x0C, 0x0D, 0x0E, 0x0F] :=
  ⟨by decide, by decide, by simp⟩

theorem witness_EveryHostWordIsOneAccess :
    (Instr.cmdTransact.wellFormed = true ∧ encode .cmdTransact = [0x03]) ∧
      ((Instr.cmdReserved80 0x7F).wellFormed = true ∧ encode (.cmdReserved80 0x7F) = [0xFF]) ∧
      Spec.isHostWord .getSerialNumberRequest = true ∧ Spec.isHostWord (.wr8 0x3FFFF 0xFF) = true := by decide

theorem witness_WritesWhileBusyAreDropped :
    writing.busy = true ∧ (0x00001 : HostAddr).toNat ≠ 0 ∧ (0x3FFFF : HostAddr).toNat ≠ 0 := by decide

theorem witness_ApertureWritesAreIgnored :
    (0x30000 : HostAddr).toNat / 65536 = 3 ∧ (0x3FFFF : HostAddr).toNat / 65536 = 3 := by decide

theorem witness_WrittenRegisterByteReadsBack :
    0x0F ∈ [0x04, 0x06, 0x07, 0x08, 0x0A, 0x0B, 0x0C, 0x0D, 0x0E, 0x0F] ∧ validated.busy = false := by decide

/-- SIZE = MAX_PAYLOAD and SIZE = MAX_PAYLOAD + 1 on each descriptor. -/
theorem witness_IssueStartsTheOperationOrReportsDescError :
    validated.busy = false ∧
      (Spec.txFits { validated with txSize := 16, rxSize := 16 } ∧ Spec.rxFits { validated with txSize := 16, rxSize := 16 }) ∧
      ¬Spec.txFits { validated with txSize := 17 } ∧ ¬Spec.rxFits { validated with rxSize := 17 } ∧
      ¬(Spec.txFits { validated with rxSize := 17 } ∧ Spec.rxFits { validated with rxSize := 17 }) := by
  unfold Spec.txFits Spec.rxFits; decide

theorem witness_ReservedCommandsAreRejected :
    validated.busy = false ∧ (0x04 : Byte) ≠ 0x01 ∧ (0x04 : Byte) ≠ 0x02 ∧ (0x04 : Byte) ≠ 0x03 := by decide

theorem witness_CommandsWhileBusyAreRejected : reading.busy = true := by decide

theorem witness_IssueForgetsEarlierResults :
    Instr.cmdTransact ∈ [Instr.cmdEncode, .cmdDecode, .cmdTransact] ∧ validated.busy = false := by decide

theorem witness_EncodeFramesTxbuf :
    ({ validated with txSize := 16 } : State).busy = false ∧ Spec.txFits { validated with txSize := 16 } ∧
      ({ validated with txSize := 16 } : State).fbuf.wf = true := by unfold Spec.txFits; decide

/-- Each outcome of the check has a state: D1, D3, D2, D9. -/
theorem witness_DecodeReportsTheFirstFailingCheck :
    loaded.busy = false ∧ Spec.rxFits loaded ∧ loaded.flen.toNat = loaded.rxSize.toNat + 5 ∧
      loaded.checkResult = .ok ∧ ({ loaded with flen := 8 } : State).checkResult = .lengthError ∧
      ({ loaded with fbuf := loaded.fbuf.write 8 0xE8 } : State).checkResult = .frameError ∧
      ({ loaded with fbuf := loaded.fbuf.write 1 0x0B } : State).checkResult = .labelError := by
  unfold Spec.rxFits; decide

/-- A buffer that differs from index 21 on, and FLEN = SIZE + 4. -/
theorem witness_CheckReadsOnlyFbuf :
    Spec.rxFits loaded ∧
      (∀ i, i < loaded.cfg.maxPayload + 5 → (loaded.fbuf.write 21 0x00).read i = loaded.fbuf.read i) ∧
      ({ loaded with flen := 8 } : State).flen.toNat ≠ ({ loaded with flen := 8 } : State).rxSize.toNat + 5 := by
  unfold Spec.rxFits; decide

theorem witness_CheckIgnoresTheLengthField :
    ∀ i, i ≠ 2 → i ≠ 3 → (loaded.fbuf.write 2 0x09).read i = loaded.fbuf.read i :=
  fun _ h _ => Memory.read_write_other h

/-- One descriptor for both directions, SIZE 2, and the four turns. -/
def roundTrip : State :=
  { idle with txLabel := 0x03, txSize := 2, rxLabel := 0x03, rxSize := 2, schedule := [.word [0x01], .core, .word [0x02], .core] }

theorem witness_EncodeThenDecodeRoundTrips :
    roundTrip.busy = false ∧ Spec.txFits roundTrip ∧ roundTrip.fbuf.wf = true ∧ roundTrip.rxLabel = roundTrip.txLabel ∧
      roundTrip.rxSize = roundTrip.txSize ∧ roundTrip.schedule = .word [0x01] :: .core :: .word [0x02] :: .core :: [] := by
  unfold Spec.txFits; decide

theorem witness_TransactSendsTheRequestFrame :
    idle.busy = false ∧ Spec.txFits idle ∧ Spec.rxFits idle ∧ idle.fbuf.wf = true := by
  unfold Spec.txFits Spec.rxFits; decide

/-- A state that sends, another frame, and a state in which EncStep belongs to an ENCODE. -/
theorem witness_TxReqIsSentByTheEncodingOfATransact :
    (encoding.phase = .enc ∧ encoding.opr = some .transact ∧ Spec.txFits encoding ∧ encoding.fbuf.wf = true) ∧
      [] ≠ Spec.request encoding ∧ (encodeIssued.phase ≠ .enc ∨ encodeIssued.opr ≠ some .transact) := by
  unfold Spec.txFits; decide

/-- Counts next to FLEN = 5 on both sides (T2, T3). -/
theorem witness_WriteResponseDecidesTheRead :
    writing.phase = .txw ∧ writing.pend = .tx ∧ (4 : U32) ≠ writing.flen ∧ (6 : U32) ≠ writing.flen := by decide

theorem witness_RxReqIsSentByTheFullCount :
    writing.phase = .txw ∧ writing.pend = .tx ∧ 8 ≠ writing.rxSize.toNat + 5 ∧ 10 ≠ writing.rxSize.toNat + 5 ∧
      idle.phase ≠ .txw := by decide

theorem witness_ReadResponseLoadsTheReply :
    reading.phase = .rxw ∧ reading.pend = .rx ∧ Spec.rxFits reading ∧ reading.fbuf.wf = true ∧
      replyBytes.length = reading.rxSize.toNat + 5 := by unfold Spec.rxFits; decide

theorem witness_StaleResponsesAreDropped : validated.pend = .none ∧ State.reset.pend = .none := by decide

theorem witness_UnmatchedResponsesChangeNothing :
    reading.phase ≠ .txw ∧ writing.phase ≠ .rxw ∧ ([] : List Byte).length ≠ reading.rxSize.toNat + 5 ∧
      (0x00 :: replyBytes).length ≠ reading.rxSize.toNat + 5 := by decide

theorem checking_inv : checking.Inv := by constructor <;> decide

theorem witness_ReplyCheckNeverReportsLength :
    checking.Inv ∧ checking.phase = .dec ∧ checking.opr = some .transact := ⟨checking_inv, by decide⟩

/-- T1 as one schedule. -/
def transaction : State :=
  { idle with
    schedule := [.word [0x03], .core, .word (encode (.wrCount (BitVec.ofNat 32 5))),
      .word (encode (.rdData ([0x7E, 0x0A, 0x04, 0x00] ++ [1, 2, 3, 4] ++ [0xE7]))), .core] }

theorem witness_FullTransactionDeliversTheReplyPayload :
    transaction.busy = false ∧ Spec.txFits transaction ∧ Spec.rxFits transaction ∧ transaction.fbuf.wf = true ∧
      ([1, 2, 3, 4] : List Byte).length = transaction.rxSize.toNat ∧
      transaction.schedule = .word [0x03] :: .core ::
        .word (encode (.wrCount (BitVec.ofNat 32 (transaction.txSize.toNat + 5)))) ::
        .word (encode (.rdData ([0x7E, transaction.rxLabel, 0x04, 0x00] ++ [1, 2, 3, 4] ++ [0xE7]))) :: .core :: [] := by
  unfold Spec.txFits Spec.rxFits; decide

/-- T6, T2 and T7 as schedules. -/
theorem witness_FailedTransactionsKeepTheRequestFrame :
    ∀ sch ∈ [[Turn.word [0x03], .core, .word (encode (.wrErr 5))], [.word [0x03], .core, .word (encode (.wrCount 4))],
        [.word [0x03], .core, .word (encode (.wrCount 5)), .word (encode (.rdErr 0x21))]],
      ({ idle with schedule := sch } : State).busy = false ∧ Spec.txFits { idle with schedule := sch } ∧
        Spec.rxFits { idle with schedule := sch } ∧ ({ idle with schedule := sch } : State).fbuf.wf = true ∧
        (4 : U32).toNat ≠ ({ idle with schedule := sch } : State).txSize.toNat + 5 ∧
        (5 : U32).toNat = ({ idle with schedule := sch } : State).txSize.toNat + 5 := by
  unfold Spec.txFits Spec.rxFits; decide

/-- A CMD byte while TXW and a stale write response while RXW. -/
theorem witness_OnlyAnAnswerOrResetEndsTheWait :
    (∃ t, step { writing with schedule := [.word [0x01]] } = .next t) ∧
      (∀ i, decode [0x01] = .ok i → (∀ c, i ≠ .wrCount c) ∧ (∀ e, i ≠ .wrErr e) ∧ ∀ n, i ≠ .rxReq n) ∧
      (∃ t, step { reading with schedule := [.word [0xA3, 0x05]] } = .next t) ∧
      (∀ i, decode [0xA3, 0x05] = .ok i → (∀ b, i ≠ .rdData b) ∧ ∀ e, i ≠ .rdErr e) ∧
      (writing.busy = true ∧ writing.phase = .txw ∧ reading.busy = true ∧ reading.phase = .rxw) := by
  refine ⟨⟨_, rfl⟩, fun i h => ?_, ⟨_, rfl⟩, fun i h => ?_, by decide⟩
  · have e : Instr.cmdEncode = i := Except.ok.inj h
    subst e
    exact ⟨nofun, nofun, nofun⟩
  · have e : Instr.wrErr 0x05 = i := Except.ok.inj h
    subst e
    exact ⟨nofun, nofun⟩

theorem witness_RequestFramesProgramTheTxDescriptor : validated.busy = false ∧ validated.txbuf.wf = true := by decide

theorem witness_ReplyFramesProgramTheRxDescriptor : validated.busy = false ∧ validated.fbuf.wf = true := by decide

theorem witness_CatalogFramesWhileBusyAreDropped : encoding.busy = true := by decide

theorem witness_CatalogTypesEncodeAndDecode :
    ∀ sch ∈ [[Turn.word (encode (.getParametersRequest 0xBEEF)), .word [0x01], .core],
        [.word (encode .getSerialNumberRequest), .word [0x01], .core],
        [.word (encode (.getParametersReply 1 2 3 4 5)), .word [0x02], .core],
        [.word (encode (.getSerialNumberReply 1 2 3 4)), .word [0x02], .core]],
      ({ validated with schedule := sch } : State).busy = false ∧ ({ validated with schedule := sch } : State).txbuf.wf = true ∧
        ({ validated with schedule := sch } : State).fbuf.wf = true := by decide

/-- T15: RESET while waiting. -/
theorem witness_ResetEventSetsEveryRegister :
    ({ reading with schedule := [.reset ⟨[0x55], []⟩] } : State).schedule = .reset ⟨[0x55], []⟩ :: [] ∧
      reading.txbuf.wf = true ∧ reading.fbuf.wf = true := by decide

theorem witness_ResetCanLeaveAnyBufferBytes : reading.txbuf.wf = true ∧ reading.fbuf.wf = true := by decide

theorem writing_inv : ({ writing with schedule := [.word [0xA2, 0x05, 0x00, 0x00, 0x00]] } : State).Inv := by
  constructor <;> decide

theorem witness_EveryStepKeepsTheInvariant :
    ({ writing with schedule := [.word [0xA2, 0x05, 0x00, 0x00, 0x00]] } : State).Inv ∧
      ∃ t, step { writing with schedule := [.word [0xA2, 0x05, 0x00, 0x00, 0x00]] } = .next t := ⟨writing_inv, _, rfl⟩

/-- wr8 FLEN, 0x05, DECODE, DecStep on the smallest frame, which the RESET event drew. -/
theorem witness_ValidMeansAValidatedFrame :
    ∃ t, run 3 (Spec.resetWith Config.vectors ⟨[], [0x7E, 0x00, 0x00, 0x00, 0xE7]⟩
      [.word [0x05, 0x0C, 0x00, 0x04], .word [0x02], .core]) = .next t ∧ t.valid = true := ⟨_, rfl, rfl⟩

/-- RST3: TRANSACT with no register written, and the full count. -/
theorem witness_TransportRequestsAreLegalAndOrdered :
    ∃ t, run 3 (Spec.resetWith Config.vectors ⟨[], []⟩ [.word [0x03], .core, .word [0xA2, 0x05, 0x00, 0x00, 0x00]]) = .next t ∧
      t.portSent = [.txReq [0x7E, 0x00, 0x00, 0x00, 0xE7], .rxReq 5] := ⟨_, rfl, rfl⟩

/-- A run that ends busy with a request outstanding. -/
theorem witness_StatusFlagsAgree :
    ∃ t, run 2 (Spec.resetWith Config.vectors ⟨[], []⟩ [.word [0x03], .core]) = .next t ∧ t.busy = true ∧ t.pend = .tx :=
  ⟨_, rfl, rfl, rfl⟩

/-- A host write while the transport has the request. -/
theorem witness_OperandsAreFrozenWhileBusy :
    writing.busy = true ∧ (∃ t, step { writing with schedule := [.word [0x55, 0x04, 0x00, 0x04]] } = .next t) ∧
      (∀ d, ({ writing with schedule := [.word [0x55, 0x04, 0x00, 0x04]] } : State).nextTurn ≠ .reset d) ∧
      decode [0x55, 0x04, 0x00, 0x04] = .ok (.wr8 0x00004 0x55) ∧ Spec.isHostWord (.wr8 0x00004 0x55) = true :=
  ⟨by decide, ⟨_, rfl⟩, nofun, by decide, by decide⟩

theorem witness_OnlyDecStepOpensTheAperture :
    checking.valid = false ∧ ∃ t, step checking = .next t ∧ t.valid = true := ⟨by decide, _, rfl, rfl⟩

/-- The issue after H5, and a TRANSACT that ends with DESC_ERROR. -/
theorem witness_RejIsClearedOnlyByAnAcceptedIssueOrReset :
    (∃ t, step { idle with rej := true, schedule := [.word [0x01]] } = .next t ∧ t.rej = false) ∧
      ∃ t, step { idle with rej := true, rxSize := 17, schedule := [.word [0x03]] } = .next t ∧ t.rej = false :=
  ⟨⟨_, rfl, rfl⟩, _, rfl, rfl⟩

theorem witness_BusyEndsOnlyByCompletionOrReset :
    checking.Inv ∧ checking.busy = true ∧ ∃ t, step checking = .next t ∧ t.busy = false := ⟨checking_inv, by decide, _, rfl, rfl⟩

end Sys2Proof.Tests
end

/-! ## Taking the scheduled turn (R12, R67): the lemmas about `nextTurn`, `popTurn`, `step` and the decoder's reading of a
table word, and the statements O7 and O8. -/

namespace Sys2Proof

/-- A table word reads as an instruction exactly when its bytes decode to it. -/
theorem decodeTableWord_eq_some_iff {nbits w : Nat} {i : Instr} :
    decodeTableWord nbits w = some i ↔ decode (tableBytes nbits w) = .ok i := by
  unfold decodeTableWord
  cases decode (tableBytes nbits w) <;> simp

end Sys2Proof

namespace Sys2Proof.Machine

/-! ### The turn taken and the state it leaves to run on -/

theorem State.nextTurn_of_schedule_cons {s : State} {t : Turn} {rest : List Turn} (h : s.schedule = t :: rest) :
    s.nextTurn = t := by
  simp [State.nextTurn, h]

theorem State.popTurn_of_schedule_cons {s : State} {t : Turn} {rest : List Turn} (h : s.schedule = t :: rest) :
    s.popTurn = { s with schedule := rest } := by
  simp [State.popTurn, h]

theorem State.nextTurn_of_schedule_nil {s : State} (h : s.schedule = []) : s.nextTurn = .core := by
  simp [State.nextTurn, h]

theorem State.popTurn_of_schedule_nil {s : State} (h : s.schedule = []) : s.popTurn = s := by
  have htail : s.schedule.tail = s.schedule := by simp [h]
  rw [State.popTurn, htail]

@[simp] theorem State.nextTurn_withFetchWord (s : State) (nbits w : Nat) :
    (s.withFetchWord nbits w).nextTurn = .word (tableBytes nbits w) := rfl

@[simp] theorem State.popTurn_withFetchWord (s : State) (nbits w : Nat) : (s.withFetchWord nbits w).popTurn = s := rfl

/-! ### One equation of `step` per kind of turn -/

theorem step_of_word {s : State} {bytes : List Byte} {i : Instr} (hturn : s.nextTurn = .word bytes)
    (hdec : decode bytes = .ok i) : step s = exec i s.popTurn := by
  simp [step, hturn, hdec]

theorem step_of_core {s : State} (hturn : s.nextTurn = .core) : step s = .next s.popTurn.coreTurn := by
  simp [step, hturn]

theorem step_of_reset {s : State} {d : ResetDraw} (hturn : s.nextTurn = .reset d) :
    step s = .next (s.popTurn.resetEvent d) := by
  simp [step, hturn]

/-! ### The obligations -/

/-- Settles O7: the schedule names the turn and what remains, and `step` has one equation per kind of turn. The
well-formedness of the instruction is not needed. -/
theorem stepRunsTheScheduledTurn : Obligations.StepRunsTheScheduledTurn := by
  intro s rest
  refine ⟨fun bytes i hs hdec _ => ?word, fun hs => ?core, fun d hs => ?reset, fun hs => ?empty⟩
  case word =>
    rw [step_of_word (State.nextTurn_of_schedule_cons hs) hdec, State.popTurn_of_schedule_cons hs]
  case core =>
    rw [step_of_core (State.nextTurn_of_schedule_cons hs), State.popTurn_of_schedule_cons hs]
  case reset =>
    rw [step_of_reset (State.nextTurn_of_schedule_cons hs), State.popTurn_of_schedule_cons hs]
  case empty =>
    rw [step_of_core (State.nextTurn_of_schedule_nil hs), State.popTurn_of_schedule_nil hs]

/-- Settles O8: the presented word is the next turn, and taking it off the schedule gives the state back. -/
theorem presentedTableWordRunsNext : Obligations.PresentedTableWordRunsNext := by
  intro s nbits w i hread
  have hdec : decode (tableBytes nbits w) = .ok i := decodeTableWord_eq_some_iff.mp hread
  rw [step_of_word (s.nextTurn_withFetchWord nbits w) hdec, s.popTurn_withFetchWord]

end Sys2Proof.Machine

/-! ## The invariants of the state (spec/10_state.md): what a step can do, the frame of each operation, and the statements
O10, O22, O44, O45, O46, O47, O50 and O53. -/

namespace Sys2Proof

/-- The words that issue an operation: the CMD bytes 0x01, 0x02 and 0x03, and WR8 of one of them to CMD (R86, R103). -/
def Instr.IsIssue (i : Instr) : Prop :=
  i = .cmdEncode ∨ i = .cmdDecode ∨ i = .cmdTransact ∨
    ∃ v : Byte, i = .wr8 0x00000 v ∧ (v = 0x01 ∨ v = 0x02 ∨ v = 0x03)

end Sys2Proof

namespace Sys2Proof.Machine

/-! ### The address map and the CMD bytes -/

theorem offsetOf_eq_mod (a : HostAddr) : offsetOf a = a.toNat % 65536 := by
  simp [offsetOf, BitVec.extractLsb'_toNat]

theorem regionOf_eq_regs_iff (a : HostAddr) : regionOf a = .regs ↔ a.toNat / 65536 = 0 := by
  have hlt := a.isLt
  have hregion : (a.extractLsb' 16 2).toNat = a.toNat / 65536 := by
    simp [BitVec.extractLsb'_toNat, Nat.shiftRight_eq_div_pow]
    omega
  unfold regionOf
  rw [hregion]
  split <;> simp_all

/-- CMD is the one address with region 0 and offset 0. -/
theorem eq_addrCmd_of_region_offset {a : HostAddr} (hr : regionOf a = .regs) (ho : offsetOf a = 0) : a = addrCmd := by
  rw [regionOf_eq_regs_iff] at hr
  rw [offsetOf_eq_mod] at ho
  apply BitVec.eq_of_toNat_eq
  rw [show addrCmd.toNat = 0 from rfl]
  omega

/-- The CMD bytes that select an operation (R86). -/
theorem eq_of_opOf_eq_some {v : Byte} {op : Op} (h : opOf v = some op) : v = 0x01 ∨ v = 0x02 ∨ v = 0x03 := by
  unfold opOf at h
  split at h
  · next e => exact .inl e
  · split at h
    · next e => exact .inr (.inl e)
    · split at h
      · next e => exact .inr (.inr e)
      · cases h

/-- A byte above 0x03 selects no operation (R86). -/
theorem opOf_of_three_lt {v : Byte} (h : 3 < v.toNat) : opOf v = none := by
  cases ho : opOf v with
  | none => rfl
  | some op => rcases eq_of_opOf_eq_some ho with rfl | rfl | rfl <;> simp at h

/-- Nonzero fixed high bits over an operand of two or more bits, as in the reserved rows from 0x04 on (R86). -/
theorem three_lt_toNat_append {m n : Nat} {hi : BitVec m} (low : BitVec n) (hn : 2 ≤ n) (hhi : 0 < hi.toNat) :
    3 < (hi ++ low).toNat := by
  have hpow : 2 ^ 2 ≤ 2 ^ n := Nat.pow_le_pow_right (by decide) hn
  have hmul : 2 ^ n ≤ hi.toNat * 2 ^ n := Nat.le_mul_of_pos_left _ hhi
  rw [BitVec.toNat_append, Nat.shiftLeft_eq]
  have hor := Nat.left_le_or (n := hi.toNat * 2 ^ n) (m := low.toNat)
  omega

theorem State.cmdWrite_of_idle {s : State} {v : Byte} {op : Op} (hb : s.busy = false) (ho : opOf v = some op) :
    s.cmdWrite v = s.issue op := by
  simp [State.cmdWrite, hb, ho]

/-! ### What an instruction can do

`exec` on each constructor is its row's meaning; `Effect` sorts the meanings by what they do to the state. -/

/-- The changes that running instruction `i` can make to a state. -/
inductive State.Effect (i : Instr) (s : State) : State → Prop
  /-- Nothing but turns placed in the schedule: a dropped write or response, or a program whose first write is dropped. -/
  | ignored (ts : List Turn) : Effect i s (s.pushTurns ts)
  /-- RD8 (R101). -/
  | read (a : HostAddr) : Effect i s { s with hostReads := s.hostReads ++ [s.hostRead a] }
  /-- REJ is set (R104, R105). -/
  | rejected : Effect i s s.reject
  /-- An operation is issued (R103). -/
  | issued (op : Op) (hi : i.IsIssue) (idle : s.busy = false) : Effect i s (s.issue op)
  /-- A host write outside CMD, and the rest of its program (R100, R102). -/
  | wrote (r : Region) (o : Nat) (v : Byte) (ts : List Turn) (idle : s.busy = false) :
      Effect i s ((s.idleWrite r o v).pushTurns ts)
  /-- EncStep (R121). -/
  | encoded (hp : s.phase = .enc) : Effect i s s.encStep
  /-- The write count (R164). -/
  | counted (c : U32) (hw : s.awaitsWrite = true) : Effect i s (s.writeCount c)
  /-- A transport error (R164, R165). -/
  | failed (e : Byte) (dir : Bool) (hw : s.awaitsWrite = true ∨ s.awaitsRead = true) : Effect i s (s.failTransport e dir)
  /-- The reply's bytes (R165). -/
  | replied (b : List Byte) (hr : s.awaitsRead = true) (hl : b.length = s.replyLength) : Effect i s (s.readData b)

/-- An instruction that changes nothing. -/
theorem State.Effect.unchanged (i : Instr) (s : State) : s.Effect i s := .ignored []

/-- A message that acts under a condition and is dropped otherwise (R169). -/
theorem State.Effect.ite {i : Instr} {s u : State} {c : Prop} [Decidable c] (h : c → s.Effect i u) :
    s.Effect i (if c then u else s) := by
  split
  · next hc => exact h hc
  · exact .unchanged i s

/-- The write of a byte to CMD by an instruction that issues what the byte selects. -/
theorem State.Effect.of_cmdWrite {i : Instr} (s : State) {v : Byte} (hi : ∀ op, opOf v = some op → i.IsIssue) :
    s.Effect i (s.cmdWrite v) := by
  rcases s.cmdWrite_cases v with ⟨e, _⟩ | ⟨op, hb, ho, e⟩ <;> rw [e]
  · exact .rejected
  · exact .issued op (hi op ho) hb

/-- The write to CMD of a reserved byte with a set bit above bit 1: it selects no operation. -/
theorem State.Effect.of_reserved {i : Instr} (s : State) {v : Byte} (hv : 3 < v.toNat) : s.Effect i (s.cmdWrite v) :=
  .of_cmdWrite s fun op ho => by simp [opOf_of_three_lt hv] at ho

/-- A host write outside CMD with the turns of the writes that follow it. -/
theorem State.Effect.of_hostWrite {i : Instr} (s : State) {a : HostAddr} (v : Byte) (ts : List Turn)
    (ha : ¬(regionOf a = .regs ∧ offsetOf a = 0)) : s.Effect i ((s.hostWrite a v).pushTurns ts) := by
  rcases s.hostWrite_cases a v with ⟨hr, ho, _⟩ | ⟨_, _, e⟩ | ⟨_, hb, e⟩
  · exact absurd ⟨hr, ho⟩ ha
  · rw [e]; exact .ignored ts
  · rw [e]; exact .wrote _ _ v ts hb

theorem State.Effect.of_wr8 (s : State) (a : HostAddr) (v : Byte) : s.Effect (.wr8 a v) (s.hostWrite a v) := by
  by_cases ha : regionOf a = .regs ∧ offsetOf a = 0
  · obtain rfl := eq_addrCmd_of_region_offset ha.1 ha.2
    exact .of_cmdWrite s fun op ho => .inr (.inr (.inr ⟨v, rfl, eq_of_opOf_eq_some ho⟩))
  · exact .of_hostWrite s v [] ha

/-- Everything an instruction can do. -/
theorem exec_effect {i : Instr} {s t : State} (h : exec i s = .next t) : s.Effect i t := by
  cases i <;> obtain rfl := Host.Outcome.next.inj h
  case rd8 a _ => exact .read a
  case wr8 a v => exact .of_wr8 s a v
  case cmdEncode => exact .of_cmdWrite s fun _ _ => .inl rfl
  case cmdDecode => exact .of_cmdWrite s fun _ _ => .inr (.inl rfl)
  case cmdTransact => exact .of_cmdWrite s fun _ _ => .inr (.inr (.inl rfl))
  case cmdReserved00 => exact .of_cmdWrite s nofun
  case cmdReserved04 low => exact .of_reserved s (three_lt_toNat_append low (by decide) (by decide))
  case cmdReserved08 low => exact .of_reserved s (three_lt_toNat_append low (by decide) (by decide))
  case cmdReserved10 low => exact .of_reserved s (three_lt_toNat_append low (by decide) (by decide))
  case cmdReserved20 low => exact .of_reserved s (three_lt_toNat_append low (by decide) (by decide))
  case cmdReserved40 low => exact .of_reserved s (three_lt_toNat_append low (by decide) (by decide))
  case cmdReserved80 low => exact .of_reserved s (three_lt_toNat_append low (by decide) (by decide))
  case txReq f => exact .ite (fun hc => .encoded hc.1)
  case rxReq n => exact .ite (fun hc => .counted s.flen hc.1)
  case wrCount c => exact .ite (fun hw => .counted c hw)
  case wrErr e => exact .ite (fun hw => .failed e false (.inl hw))
  case rdData b => exact .ite (fun hc => .replied b hc.1 hc.2)
  case rdErr e => exact .ite (fun hr => .failed e true (.inr hr))
  case getParametersRequest p => exact .of_hostWrite s _ _ (by decide)
  case getParametersReply a b c d r => exact .of_hostWrite s _ _ (by decide)
  case getSerialNumberRequest => exact .of_hostWrite s _ _ (by decide)
  case getSerialNumberReply s0 s1 s2 s3 => exact .of_hostWrite s _ _ (by decide)

/-- A CORE turn is EncStep in ENC, DecStep in DEC and nothing in the other phases (R12). -/
theorem State.coreTurn_cases (s : State) :
    (s.phase = .enc ∧ s.coreTurn = s.encStep) ∨ (s.phase = .dec ∧ s.coreTurn = s.decStep) ∨ s.coreTurn = s := by
  unfold State.coreTurn
  cases s.phase <;> simp

end Sys2Proof.Machine

namespace Sys2Proof.Machine

/-! ### The frame of the compound operations: MAX_PAYLOAD and REJ -/

namespace State

@[simp] theorem issue_cfg (s : State) (op : Op) : (s.issue op).cfg = s.cfg := by
  rcases s.issue_cases op with ⟨_, e⟩ | ⟨_, e⟩ <;> rw [e] <;> rfl

@[simp] theorem idleWrite_cfg (s : State) (r : Region) (o : Nat) (v : Byte) : (s.idleWrite r o v).cfg = s.cfg := by
  rcases s.idleWrite_cases r o v with e | ⟨_, _, e⟩ | ⟨_, _, _, e⟩ | e | e <;> rw [e] <;> rfl

@[simp] theorem idleWrite_rej (s : State) (r : Region) (o : Nat) (v : Byte) : (s.idleWrite r o v).rej = s.rej := by
  rcases s.idleWrite_cases r o v with e | ⟨_, _, e⟩ | ⟨_, _, _, e⟩ | e | e <;> rw [e] <;> rfl

@[simp] theorem encStep_cfg (s : State) : s.encStep.cfg = s.cfg := by
  unfold encStep; split <;> rfl

@[simp] theorem encStep_rej (s : State) : s.encStep.rej = s.rej := by
  unfold encStep; split <;> rfl

@[simp] theorem decStep_cfg (s : State) : s.decStep.cfg = s.cfg := by
  unfold decStep; split <;> rfl

@[simp] theorem decStep_rej (s : State) : s.decStep.rej = s.rej := by
  unfold decStep; split <;> rfl

@[simp] theorem coreTurn_cfg (s : State) : s.coreTurn.cfg = s.cfg := by
  rcases s.coreTurn_cases with ⟨_, e⟩ | ⟨_, e⟩ | e <;> simp [e]

@[simp] theorem coreTurn_rej (s : State) : s.coreTurn.rej = s.rej := by
  rcases s.coreTurn_cases with ⟨_, e⟩ | ⟨_, e⟩ | e <;> simp [e]

@[simp] theorem writeCount_cfg (s : State) (c : U32) : (s.writeCount c).cfg = s.cfg := by
  unfold writeCount; split <;> rfl

@[simp] theorem writeCount_rej (s : State) (c : U32) : (s.writeCount c).rej = s.rej := by
  unfold writeCount; split <;> rfl

@[simp] theorem failTransport_cfg (s : State) (e : Byte) (dir : Bool) : (s.failTransport e dir).cfg = s.cfg := rfl
@[simp] theorem failTransport_rej (s : State) (e : Byte) (dir : Bool) : (s.failTransport e dir).rej = s.rej := rfl
@[simp] theorem readData_cfg (s : State) (b : List Byte) : (s.readData b).cfg = s.cfg := rfl
@[simp] theorem readData_rej (s : State) (b : List Byte) : (s.readData b).rej = s.rej := rfl

end State

/-- No instruction writes MAX_PAYLOAD (R6). -/
theorem State.Effect.cfg_eq {i : Instr} {s t : State} (h : s.Effect i t) : t.cfg = s.cfg := by
  cases h <;> simp

/-- REJ falls only when an operation is issued. -/
theorem State.Effect.rej_cleared {i : Instr} {s t : State} (h : s.Effect i t) (hs : s.rej = true) (ht : t.rej = false) :
    i.IsIssue ∧ s.busy = false ∧ ∃ op, t = s.issue op := by
  cases h
  case issued op hi hb => exact ⟨hi, hb, op, rfl⟩
  all_goals simp [hs] at ht

/-- No step writes MAX_PAYLOAD (R6). -/
theorem cfg_eq_of_step {s t : State} (h : step s = .next t) : t.cfg = s.cfg := by
  rcases step_next_cases h with ⟨_, _, _, _, he⟩ | ⟨_, rfl⟩ | ⟨d, _, rfl⟩
  · exact (exec_effect he).cfg_eq
  · simp
  · simp

/-- CAP, read low byte first, is MAX_PAYLOAD: it fits 16 bits (R6, R33). -/
theorem State.hostRead_cap (s : State) :
    (s.hostRead 0x00018).toNat + 256 * (s.hostRead 0x00019).toNat = s.cfg.maxPayload := by
  have hlow : s.hostRead 0x00018 = byteOf (BitVec.ofNat 16 s.cfg.maxPayload) 0 := rfl
  have hhigh : s.hostRead 0x00019 = byteOf (BitVec.ofNat 16 s.cfg.maxPayload) 1 := rfl
  have hmax := s.cfg.legal.2
  rw [hlow, hhigh, ← toNat_le16, le16_byteOf, BitVec.toNat_ofNat, Nat.mod_eq_of_lt (by omega)]

/-! ### An issue depends on the descriptors and operands only -/

/-- An issue sees only what `clearResults` keeps (R41, R103). -/
theorem State.issue_congr {s u : State} (op : Op) (h : u.clearResults = s.clearResults) : u.issue op = s.issue op := by
  have hissue : ∀ w : State, w.issue op =
      if w.clearResults.descTooLarge op then w.clearResults.complete .descError
      else { w.clearResults with opr := some op, busy := true, phase := op.firstPhase } := fun _ => rfl
  rw [hissue, hissue, h]

/-- The CMD byte of an operation, presented to two idle states that are one after `clearResults`, leaves one state. -/
theorem exec_issue_congr {i : Instr} {s u : State} (hi : i ∈ [Instr.cmdEncode, .cmdDecode, .cmdTransact])
    (hs : s.busy = false) (hu : u.busy = false) (h : u.clearResults = s.clearResults) : exec i u = exec i s := by
  have hwrite {v : Byte} {op : Op} (ho : opOf v = some op) : u.cmdWrite v = s.cmdWrite v := by
    rw [State.cmdWrite_of_idle hu ho, State.cmdWrite_of_idle hs ho, State.issue_congr op h]
  simp only [List.mem_cons, List.not_mem_nil, or_false] at hi
  rcases hi with rfl | rfl | rfl
  · exact congrArg Host.Outcome.next (hwrite (v := 0x01) rfl)
  · exact congrArg Host.Outcome.next (hwrite (v := 0x02) rfl)
  · exact congrArg Host.Outcome.next (hwrite (v := 0x03) rfl)

/-! ### Reading what a RESET event draws -/

/-- The first `n` values of a function, stored from index 0 on, are read back where they lie in the storage. -/
theorem Memory.read_storeList_ofFn {cap n : Nat} {m : Memory} (g : Nat → Byte) (hm : m.wf = true) (hn : n ≤ cap) :
    ∀ i, i < n → (Memory.storeList cap m 0 ((List.range n).map g)).read i = g i := by
  intro i hi
  have hread := Memory.read_storeList_inside (cap := cap) (a := 0) ((List.range n).map g)
    (i := i) (by simpa using hi) hm (by omega)
  rw [Nat.zero_add] at hread
  simpa using hread

/-! ### The order of the transport requests (R73) -/

theorem lastIsTxReq_cons_cons (r q : Request) (qs : List Request) :
    lastIsTxReq (r :: q :: qs) = lastIsTxReq (q :: qs) := by
  cases r <;> rfl

theorem lastIsTxReq_append_txReq (rs : List Request) (f : List Byte) : lastIsTxReq (rs ++ [.txReq f]) = true := by
  induction rs with
  | nil => rfl
  | cons r rs ih =>
    cases rs with
    | nil => exact lastIsTxReq_cons_cons r _ _
    | cons q qs => exact (lastIsTxReq_cons_cons r q _).trans ih

theorem readsFollowWrites_append_txReq {rs : List Request} (f : List Byte) : ∀ {prev : Bool},
    readsFollowWrites prev rs = true → readsFollowWrites prev (rs ++ [.txReq f]) = true := by
  induction rs with
  | nil => intro prev _; rfl
  | cons r rs ih =>
    intro prev h
    cases r with
    | txReq g => exact ih h
    | rxReq n =>
      simp only [readsFollowWrites, List.cons_append, Bool.and_eq_true] at h ⊢
      exact ⟨h.1, ih h.2⟩

/-- A read may follow when the last request is a write. -/
theorem readsFollowWrites_append_rxReq {rs : List Request} (n : Nat) : ∀ {prev : Bool},
    readsFollowWrites prev rs = true → lastIsTxReq rs = true → readsFollowWrites prev (rs ++ [.rxReq n]) = true := by
  induction rs with
  | nil => intro prev _ hlast; cases hlast
  | cons r rs ih =>
    intro prev h hlast
    cases rs with
    | nil =>
      cases r with
      | txReq g => rfl
      | rxReq k => cases hlast
    | cons q qs =>
      rw [lastIsTxReq_cons_cons] at hlast
      cases r with
      | txReq g => exact ih h hlast
      | rxReq k =>
        rw [readsFollowWrites, Bool.and_eq_true] at h
        rw [List.cons_append, readsFollowWrites, Bool.and_eq_true]
        exact ⟨h.1, ih h.2 hlast⟩

/-! ### The requests of a TRANSACT whose descriptors fit are legal (R160) -/

theorem State.legal_txReq {s : State} (hsize : s.txSize.toNat ≤ s.cfg.maxPayload) :
    (Request.txReq s.requestFrame).legal s.cfg = true := by
  simp [Request.legal, Config.maxFrame, hsize]

theorem State.legal_rxReq {s : State} (hsize : s.rxSize.toNat ≤ s.cfg.maxPayload) :
    (Request.rxReq s.replyLength).legal s.cfg = true := by
  simp [Request.legal, Config.maxFrame, State.replyLength, overhead, hsize]

/-! ### What the invariant says of an idle and of a busy state -/

theorem State.descTooLarge_eq_false_iff (s : State) (op : Op) :
    s.descTooLarge op = false ↔
      (op.needsTx = true → s.txSize.toNat ≤ s.cfg.maxPayload) ∧
        (op.needsRx = true → s.rxSize.toNat ≤ s.cfg.maxPayload) := by
  simp [State.descTooLarge]

theorem State.descriptorInv_of_opr {s : State} {op : Op} (hop : s.opr = some op) (hfit : s.descTooLarge op = false) :
    s.DescriptorInv := by
  simp [State.DescriptorInv, hop, hfit]

namespace State.Inv

section
variable {s : State} (h : s.Inv)
include h

theorem phase_of_idle (hb : s.busy = false) : s.phase = .idle := by
  obtain ⟨hbusy, -⟩ := h.sequence
  by_contra hp
  simp [hbusy.2 hp] at hb

theorem opr_of_idle (hb : s.busy = false) : s.opr = none := by
  obtain ⟨-, hopr, -⟩ := h.sequence
  exact hopr.2 (h.phase_of_idle hb)

theorem busy_of_phase_ne (hp : s.phase ≠ .idle) : s.busy = true := by
  obtain ⟨hbusy, -⟩ := h.sequence
  exact hbusy.2 hp

theorem valid_of_busy (hb : s.busy = true) : s.valid = false := by
  obtain ⟨hflags, -⟩ := h.flag
  exact (hflags hb).2

theorem result_of_busy (hb : s.busy = true) : s.result = .none := by
  obtain ⟨hflags, -, hdone⟩ := h.flag
  by_contra hr
  simp [hdone.2 hr] at hflags
  simp [hflags] at hb

/-- While an operation runs, the registers that its completion may write hold 0 (R103). -/
theorem cause_of_busy (hb : s.busy = true) : s.tcause = 0 ∧ s.tdir = false := by
  obtain ⟨hcause, -⟩ := h.results
  exact hcause (by simp [h.result_of_busy hb])

theorem lenField_of_busy (hb : s.busy = true) : s.rxLenField = 0 ∧ s.lenw = false := by
  obtain ⟨-, hfield, -⟩ := h.results
  exact hfield (by simp [h.result_of_busy hb])

/-- The descriptors of the operation in progress fit (R103). -/
theorem sizes_le {op : Op} (hop : s.opr = some op) :
    (op.needsTx = true → s.txSize.toNat ≤ s.cfg.maxPayload) ∧
      (op.needsRx = true → s.rxSize.toNat ≤ s.cfg.maxPayload) := by
  have hfit := h.descriptor
  rw [← s.descTooLarge_eq_false_iff]
  simpa [DescriptorInv, hop] using hfit

theorem exists_opr (hp : s.phase ≠ .idle) : ∃ op, s.opr = some op := by
  obtain ⟨-, hnone, -⟩ := h.sequence
  exact Option.ne_none_iff_exists'.1 (mt hnone.1 hp)

theorem opr_of_enc (hp : s.phase = .enc) : s.opr = some .encode ∨ s.opr = some .transact := by
  obtain ⟨-, -, -, -, henc, -⟩ := h.sequence
  obtain ⟨op, hop⟩ := h.exists_opr (by simp [hp])
  cases op with
  | encode => exact .inl hop
  | decode => exact absurd hop (henc hp)
  | transact => exact .inr hop

theorem opr_of_dec (hp : s.phase = .dec) : s.opr = some .decode ∨ s.opr = some .transact := by
  obtain ⟨-, -, -, -, -, hdec, -⟩ := h.sequence
  obtain ⟨op, hop⟩ := h.exists_opr (by simp [hp])
  cases op with
  | encode => exact absurd hop (hdec hp)
  | decode => exact .inl hop
  | transact => exact .inr hop

theorem txSize_le_of_enc (hp : s.phase = .enc) : s.txSize.toNat ≤ s.cfg.maxPayload := by
  rcases h.opr_of_enc hp with hop | hop <;> exact (h.sizes_le hop).1 rfl

theorem rxSize_le_of_dec (hp : s.phase = .dec) : s.rxSize.toNat ≤ s.cfg.maxPayload := by
  rcases h.opr_of_dec hp with hop | hop <;> exact (h.sizes_le hop).2 rfl

theorem opr_of_awaitsWrite (hw : s.awaitsWrite = true) : s.phase = .txw ∧ s.opr = some .transact := by
  obtain ⟨-, -, -, -, -, -, htxw, -⟩ := h.sequence
  rw [State.awaitsWrite, Bool.and_eq_true, beq_iff_eq] at hw
  have hp : s.phase = .txw := hw.1
  exact ⟨hp, htxw hp⟩

theorem opr_of_awaitsRead (hr : s.awaitsRead = true) : s.phase = .rxw ∧ s.opr = some .transact := by
  obtain ⟨-, -, -, -, -, -, -, hrxw⟩ := h.sequence
  rw [State.awaitsRead, Bool.and_eq_true, beq_iff_eq] at hr
  have hp : s.phase = .rxw := hr.1
  exact ⟨hp, hrxw hp⟩

/-- FBUF with a frame loaded is still in canonical form and inside its storage. -/
theorem memory_loadFrame (bs : List Byte) : (s.loadFrame bs).MemoryInv := by
  obtain ⟨htx, htxcap, hf, hfcap⟩ := h.memory
  exact ⟨htx, htxcap, Memory.wf_storeList _ _ _ hf, Memory.within_storeList _ _ hfcap⟩

/-! ### Each operation keeps the invariant -/

/-- The invariant says nothing of REJ, the schedule and the record of the host's reads. -/
theorem frame (rej : Bool) (schedule : List Turn) (hostReads : List Byte) :
    ({ s with rej := rej, schedule := schedule, hostReads := hostReads } : State).Inv :=
  ⟨h.memory, h.sequence, h.descriptor, h.length, h.flag, h.results, h.validated, h.port⟩

/-- Idle writes of the TX descriptor and TXBUF, which leave a validated frame valid (R102, R107). -/
theorem writeTx (hb : s.busy = false) (label : Byte) (size : U16) {m : Memory} (hm : m.wf = true)
    (hcap : m.within s.cfg.maxPayload = true) :
    ({ s with txLabel := label, txSize := size, txbuf := m } : State).Inv where
  memory := by
    obtain ⟨-, -, hf, hfcap⟩ := h.memory
    exact ⟨hm, hcap, hf, hfcap⟩
  sequence := h.sequence
  descriptor := by simp [DescriptorInv, h.opr_of_idle hb]
  length := by simp [LengthInv, h.phase_of_idle hb]
  flag := h.flag
  results := h.results
  validated := h.validated
  port := h.port

/-- Idle writes of the RX descriptor, FLEN and FBUF, which close the aperture (R102, R107). -/
theorem writeRx (hb : s.busy = false) (label : Byte) (size : U16) (n : U32) {m : Memory} (hm : m.wf = true)
    (hcap : m.within s.cfg.maxFrame = true) :
    ({ s with rxLabel := label, rxSize := size, flen := n, fbuf := m, valid := false } : State).Inv where
  memory := by
    obtain ⟨htx, htxcap, -, -⟩ := h.memory
    exact ⟨htx, htxcap, hm, hcap⟩
  sequence := h.sequence
  descriptor := by simp [DescriptorInv, h.opr_of_idle hb]
  length := by simp [LengthInv, h.phase_of_idle hb]
  flag := by
    obtain ⟨-, -, hdone⟩ := h.flag
    exact ⟨by simp [hb], nofun, hdone⟩
  results := by
    obtain ⟨hcause, hfield, -⟩ := h.results
    exact ⟨hcause, hfield, by simp [h.phase_of_idle hb, h.opr_of_idle hb]⟩
  validated := nofun
  port := h.port

theorem idleWrite (hb : s.busy = false) (r : Region) (o : Nat) (v : Byte) : (s.idleWrite r o v).Inv := by
  obtain ⟨htx, htxcap, hf, hfcap⟩ := h.memory
  rcases s.idleWrite_cases r o v with e | ⟨l, z, e⟩ | ⟨l, z, n, e⟩ | e | e <;> rw [e]
  · exact h
  · exact h.writeTx hb l z htx htxcap
  · exact h.writeRx hb l z n hf hfcap
  · exact h.writeTx hb s.txLabel s.txSize (Memory.wf_store _ o v htx) (Memory.within_store o v htxcap)
  · exact h.writeRx hb s.rxLabel s.rxSize s.flen (Memory.wf_store _ o v hf) (Memory.within_store o v hfcap)

end

/-- A completion (R187) leaves the invariant when the result registers belong to its code and a raised VALID to a
validated frame. -/
theorem complete {u : State} {code : Result} (hmem : u.MemoryInv) (hport : u.PortInv) (hcode : code ≠ .none)
    (hcause : code ≠ .transportError → u.tcause = 0 ∧ u.tdir = false)
    (hfield : code ≠ .ok → u.rxLenField = 0 ∧ u.lenw = false)
    (hvalid : (u.complete code).ValidatedInv) : (u.complete code).Inv where
  memory := hmem
  sequence := by simp [SequenceInv]
  descriptor := rfl
  length := by simp [LengthInv]
  flag := by
    refine ⟨nofun, fun hv => ?_, by simp [hcode]⟩
    obtain ⟨-, hok, -⟩ := hvalid hv
    exact ⟨rfl, hok⟩
  results := ⟨hcause, hfield, by simp⟩
  validated := hvalid
  port := by
    obtain ⟨hlegal, horder, -⟩ := hport
    exact ⟨hlegal, horder, nofun⟩

/-- A completion with the aperture closed. -/
theorem complete_of_closed {u : State} {code : Result} (hmem : u.MemoryInv) (hport : u.PortInv) (hcode : code ≠ .none)
    (hv : u.valid = false) (hcause : code ≠ .transportError → u.tcause = 0 ∧ u.tdir = false)
    (hfield : u.rxLenField = 0 ∧ u.lenw = false) : (u.complete code).Inv :=
  .complete hmem hport hcode hcause (fun _ => hfield) (by simp [ValidatedInv, hv])

section
variable {s : State} (h : s.Inv)
include h

theorem issue (hb : s.busy = false) (op : Op) : (s.issue op).Inv := by
  obtain ⟨hlegal, horder, -⟩ := h.port
  obtain ⟨-, -, htx, hrx, -⟩ := h.sequence
  have hp := h.phase_of_idle hb
  have hpend : s.pend ≠ .tx ∧ s.pend ≠ .rx := by simp [htx, hrx, hp]
  rcases s.issue_cases op with ⟨-, e⟩ | ⟨hfit, e⟩ <;> rw [e]
  · exact .complete_of_closed (u := s.clearResults) h.memory h.port nofun rfl (fun _ => ⟨rfl, rfl⟩) ⟨rfl, rfl⟩
  · exact {
      memory := h.memory
      sequence := by cases op <;> simp [SequenceInv, Op.firstPhase, hpend]
      descriptor := descriptorInv_of_opr rfl hfit
      length := by cases op <;> simp [LengthInv, Op.firstPhase]
      flag := by simp [FlagInv]
      results := by cases op <;> simp [ResultInv, Op.firstPhase]
      validated := nofun
      port := ⟨hlegal, horder, by cases op <;> simp [Op.firstPhase]⟩ }

theorem encStep (hp : s.phase = .enc) : s.encStep.Inv := by
  have hb : s.busy = true := h.busy_of_phase_ne (by simp [hp])
  have hsize := h.txSize_le_of_enc hp
  rcases h.opr_of_enc hp with hop | hop
  · rw [encStep_encode hop]
    exact .complete_of_closed (h.memory_loadFrame _) h.port nofun (h.valid_of_busy hb)
      (fun _ => h.cause_of_busy hb) (h.lenField_of_busy hb)
  · rw [encStep_transact (by simp [hop])]
    obtain ⟨hlegal, horder, -⟩ := h.port
    obtain ⟨hcause, hfield, hcount, -⟩ := h.results
    exact {
      memory := h.memory_loadFrame _
      sequence := by simp [SequenceInv, hb, hop]
      descriptor := h.descriptor
      length := by
        have hlen := s.txSize.isLt
        simp [LengthInv, overhead]
        omega
      flag := h.flag
      results := ⟨hcause, hfield, by simp [hcount hp]⟩
      validated := by simp [ValidatedInv, h.valid_of_busy hb]
      port := by
        refine ⟨?_, readsFollowWrites_append_txReq _ horder, fun _ => lastIsTxReq_append_txReq _ _⟩
        simp [hlegal, legal_txReq hsize] }

theorem decStep (hp : s.phase = .dec) : s.decStep.Inv := by
  have hb : s.busy = true := h.busy_of_phase_ne (by simp [hp])
  obtain ⟨hnone, htransport, -⟩ := check_ne s.fbuf s.flen.toNat s.rxLabel s.rxSize.toNat
  unfold State.decStep
  split
  · next hok =>
    obtain ⟨hlen, hstart, hend, hlabel⟩ := (check_eq_ok_iff _ _ _ _).1 hok
    exact .complete h.memory h.port nofun (fun _ => h.cause_of_busy hb) nofun
      fun _ => ⟨rfl, rfl, hlen, h.rxSize_le_of_dec hp, hstart, hend, hlabel, rfl, rfl⟩
  · exact .complete_of_closed h.memory h.port hnone (h.valid_of_busy hb)
      (fun _ => h.cause_of_busy hb) (h.lenField_of_busy hb)

theorem coreTurn : s.coreTurn.Inv := by
  rcases s.coreTurn_cases with ⟨hp, e⟩ | ⟨hp, e⟩ | e <;> rw [e]
  · exact h.encStep hp
  · exact h.decStep hp
  · exact h

theorem writeCount (hw : s.awaitsWrite = true) (c : U32) : (s.writeCount c).Inv := by
  obtain ⟨hp, hop⟩ := h.opr_of_awaitsWrite hw
  have hb : s.busy = true := h.busy_of_phase_ne (by simp [hp])
  unfold State.writeCount
  split
  · next hc =>
    obtain ⟨hlegal, horder, hlast⟩ := h.port
    obtain ⟨hcause, hfield, -⟩ := h.results
    obtain ⟨hlen, -⟩ := h.length
    have hsize : s.rxSize.toNat ≤ s.cfg.maxPayload := (h.sizes_le hop).2 rfl
    exact {
      memory := h.memory
      sequence := by simp [SequenceInv, hb, hop]
      descriptor := h.descriptor
      length := by simp [LengthInv, hlen hp]
      flag := h.flag
      results := ⟨hcause, hfield, by simp [hop, hc]⟩
      validated := by simp [ValidatedInv, h.valid_of_busy hb]
      port := by
        refine ⟨?_, readsFollowWrites_append_rxReq _ horder (hlast hp), nofun⟩
        simp [hlegal, legal_rxReq hsize] }
  · exact .complete_of_closed h.memory h.port nofun (h.valid_of_busy hb)
      (fun _ => h.cause_of_busy hb) (h.lenField_of_busy hb)

theorem failTransport (hw : s.awaitsWrite = true ∨ s.awaitsRead = true) (e : Byte) (dir : Bool) :
    (s.failTransport e dir).Inv := by
  have hp : s.phase ≠ .idle := by
    rcases hw with hw | hr
    · simp [(h.opr_of_awaitsWrite hw).1]
    · simp [(h.opr_of_awaitsRead hr).1]
  have hb : s.busy = true := h.busy_of_phase_ne hp
  exact .complete_of_closed h.memory h.port nofun (h.valid_of_busy hb) nofun (h.lenField_of_busy hb)

theorem readData (hr : s.awaitsRead = true) {b : List Byte} (hlen : b.length = s.replyLength) : (s.readData b).Inv := by
  obtain ⟨hp, hop⟩ := h.opr_of_awaitsRead hr
  have hb : s.busy = true := h.busy_of_phase_ne (by simp [hp])
  obtain ⟨hlegal, horder, -⟩ := h.port
  obtain ⟨hcause, hfield, -⟩ := h.results
  exact {
    memory := h.memory_loadFrame b
    sequence := by simp [SequenceInv, State.readData, hb, hop]
    descriptor := h.descriptor
    length := by
      have hlt := s.rxSize.isLt
      simp [LengthInv, State.readData, hlen, replyLength, overhead]
      omega
    flag := h.flag
    results := ⟨hcause, hfield, by simp [State.readData, hop]⟩
    validated := by simp [ValidatedInv, State.readData, h.valid_of_busy hb]
    port := ⟨hlegal, horder, nofun⟩ }

theorem resetEvent (d : ResetDraw) : (s.resetEvent d).Inv := by
  obtain ⟨htx, htxcap, hf, hfcap⟩ := h.memory
  obtain ⟨hlegal, horder, -⟩ := h.port
  exact {
    memory := ⟨Memory.wf_storeList _ _ _ htx, Memory.within_storeList _ _ htxcap, Memory.wf_storeList _ _ _ hf,
      Memory.within_storeList _ _ hfcap⟩
    sequence := by simp [SequenceInv]
    descriptor := rfl
    length := by simp [LengthInv]
    flag := by simp [FlagInv]
    results := by simp [ResultInv]
    validated := nofun
    port := ⟨hlegal, horder, nofun⟩ }

/-- Running an instruction keeps the invariant. -/
theorem of_effect {i : Instr} {t : State} (he : s.Effect i t) : t.Inv := by
  cases he with
  | ignored ts => exact h.frame s.rej _ s.hostReads
  | read a => exact h.frame s.rej s.schedule _
  | rejected => exact h.frame true s.schedule s.hostReads
  | issued op _ hb => exact h.issue hb op
  | wrote r o v ts hb => exact (h.idleWrite hb r o v).frame _ _ _
  | encoded hp => exact h.encStep hp
  | counted c hw => exact h.writeCount hw c
  | failed e dir hw => exact h.failTransport hw e dir
  | replied b hr hl => exact h.readData hr hl

/-- Every step keeps the invariant. -/
theorem step {t : State} (hs : step s = .next t) : t.Inv := by
  have hpop : s.popTurn.Inv := h.frame s.rej s.schedule.tail s.hostReads
  rcases step_next_cases hs with ⟨_, _, _, _, he⟩ | ⟨_, rfl⟩ | ⟨d, _, rfl⟩
  · exact hpop.of_effect (exec_effect he)
  · exact hpop.coreTurn
  · exact hpop.resetEvent d

end

/-- The invariant holds after reset (R40). -/
theorem of_reset : State.reset.Inv := by
  constructor <;> decide

/-- It holds after reset for every MAX_PAYLOAD and schedule. -/
theorem of_reset_with (c : Config) (turns : List Turn) :
    ({ State.reset with cfg := c, schedule := turns } : State).Inv where
  memory := ⟨rfl, rfl, rfl, rfl⟩
  sequence := of_reset.sequence
  descriptor := rfl
  length := of_reset.length
  flag := of_reset.flag
  results := of_reset.results
  validated := nofun
  port := ⟨rfl, rfl, nofun⟩

/-- A run keeps the invariant. -/
theorem run {k : Nat} : ∀ {s t : State}, s.Inv → run k s = .next t → t.Inv := by
  induction k with
  | zero =>
    intro s t h hr
    exact Host.Outcome.next.inj hr ▸ h
  | succ k ih =>
    intro s t h hr
    rw [Machine.run] at hr
    split at hr
    · next u hu => exact ih (h.step hu) hr
    · cases hr
    · cases hr

/-- The invariant holds in every state a run reaches from a reset. -/
theorem of_run_resetWith {c : Config} {d : ResetDraw} {turns : List Turn} {k : Nat} {t : State}
    (hr : Machine.run k (Spec.resetWith c d turns) = .next t) : t.Inv :=
  ((of_reset_with c turns).resetEvent d).run hr

end State.Inv

/-! ### The obligations -/

/-- Settles O47: each effect of an instruction, the CORE's turn and the RESET event keep the invariant. -/
theorem everyStepKeepsTheInvariant : Obligations.EveryStepKeepsTheInvariant :=
  fun _ _ h hs => h.step hs

/-- Settles O10: no step writes the parameter, and CAP reads it in the next state. -/
theorem capacityIsConstant : Obligations.CapacityIsConstant := by
  intro s t hs
  have hcfg := cfg_eq_of_step hs
  exact ⟨hcfg, hcfg ▸ t.hostRead_cap⟩

/-- Settles O22: both states are one after `clearResults`, which is all an issue sees. -/
theorem issueForgetsEarlierResults : Obligations.IssueForgetsEarlierResults := by
  intro s i done valid rej lenw tdir result txCount tcause rxLenField hi hb
  exact exec_issue_congr hi hb hb rfl

/-- Settles O44: the draw lists the wanted bytes of each buffer up to its capacity. -/
theorem resetCanLeaveAnyBufferBytes : Obligations.ResetCanLeaveAnyBufferBytes := by
  intro s rest g h htx hf
  refine ⟨⟨(List.range s.cfg.maxPayload).map g, (List.range s.cfg.maxFrame).map h⟩, _, rfl, ?_, ?_⟩
  · exact Memory.read_storeList_ofFn g htx le_rfl
  · exact Memory.read_storeList_ofFn h hf le_rfl

/-- Settles O50: the flags' part of the invariant, which every reachable state meets. -/
theorem statusFlagsAgree : Obligations.StatusFlagsAgree := by
  intro c d turns k t hr
  have hinv := State.Inv.of_run_resetWith hr
  obtain ⟨hbusy, -, htx, hrx, -⟩ := hinv.sequence
  obtain ⟨hrunning, hvalid, -⟩ := hinv.flag
  refine ⟨⟨fun hp => ?_, hinv.phase_of_idle⟩, hrunning, hvalid, htx, hrx⟩
  simpa [hp] using hbusy

/-- Settles O53: of all the effects of a step only RESET and an issue clear REJ, and an issue starts the operation or
completes it with DESC_ERROR. -/
theorem rejIsClearedOnlyByAnAcceptedIssueOrReset : Obligations.RejIsClearedOnlyByAnAcceptedIssueOrReset := by
  intro s t hs hrej hclear
  rcases step_next_cases hs with ⟨bytes, i, hturn, hdec, he⟩ | ⟨-, rfl⟩ | ⟨d, hturn, -⟩
  · obtain ⟨hi, hb, op, rfl⟩ := (exec_effect he).rej_cleared hrej hclear
    refine .inr ⟨hb, ⟨bytes, i, hturn, hdec, hi⟩, ?_⟩
    rcases s.popTurn.issue_cases op with ⟨-, e⟩ | ⟨-, e⟩ <;> rw [e]
    · exact .inr ⟨rfl, rfl, rfl⟩
    · exact .inl ⟨rfl, rfl, rfl⟩
  · simp [hrej] at hclear
  · exact .inl ⟨d, hturn⟩

/-- Settles O45. -/
theorem resetStateRegisters : Obligations.ResetStateRegisters := by
  unfold Obligations.ResetStateRegisters
  decide

/-- Settles O46: each part is a closed fact of the reset state. -/
theorem invariantHoldsAtReset : Obligations.InvariantHoldsAtReset :=
  State.Inv.of_reset

end Sys2Proof.Machine

/-! ## The memory map and the operands (spec/20_memory.md): host writes by region, register bytes, what a busy step keeps, the
requests of a run, and the statements O17, O18, O31, O49 and O51. -/

namespace Sys2Proof.Machine

/-! ### One byte of a value replaced (R64) -/

theorem byteOf_setByte16 (v : U16) (b : Byte) {j k : Nat} (hj : j < 2) (hk : k < 2) :
    byteOf (setByte16 v j b) k = if k = j then b else byteOf v k := by
  interval_cases j <;> interval_cases k <;> simp [setByte16]

theorem byteOf_setByte16_same (v : U16) (b : Byte) {k : Nat} (hk : k < 2) : byteOf (setByte16 v k b) k = b := by
  rw [byteOf_setByte16 v b hk hk, if_pos rfl]

theorem byteOf_setByte32 (v : U32) (b : Byte) {j k : Nat} (hj : j < 4) (hk : k < 4) :
    byteOf (setByte32 v j b) k = if k = j then b else byteOf v k := by
  interval_cases j <;> interval_cases k <;> simp [setByte32]

theorem byteOf_setByte32_same (v : U32) (b : Byte) {k : Nat} (hk : k < 4) : byteOf (setByte32 v k b) k = b := by
  rw [byteOf_setByte32 v b hk hk, if_pos rfl]

/-! ### WR8 by region (R62, R102) -/

theorem exec_wr8 (a : HostAddr) (v : Byte) (s : State) : exec (.wr8 a v) s = .next (s.hostWrite a v) := rfl

theorem regionOf_eq_rxpay {a : HostAddr} (h : a.toNat / 65536 = 3) : regionOf a = .rxpay := by
  have hregion : (a.extractLsb' 16 2).toNat = 3 := by
    simp [BitVec.extractLsb'_toNat, Nat.shiftRight_eq_div_pow]
    omega
  simp [regionOf, hregion]

namespace State

theorem hostWrite_of_rxpay (s : State) {a : HostAddr} (v : Byte) (h : regionOf a = .rxpay) : s.hostWrite a v = s := by
  rcases s.hostWrite_cases a v with ⟨hr, -, -⟩ | ⟨-, -, e⟩ | ⟨-, -, e⟩
  · simp [h] at hr
  · exact e
  · rw [e, h]; rfl

/-- An idle write to a register other than CMD is RegWrite of its offset (R102, R107). -/
theorem hostWrite_register {s : State} {o : Nat} (v : Byte) (hb : s.busy = false) (hlt : o < 65536) (h0 : o ≠ 0) :
    s.hostWrite (BitVec.ofNat 18 o) v = s.regWrite o v := by
  have htoNat : (BitVec.ofNat 18 o).toNat = o := by simp; omega
  have hregion : regionOf (BitVec.ofNat 18 o) = .regs := by
    rw [regionOf_eq_regs_iff, htoNat]
    omega
  have hoffset : offsetOf (BitVec.ofNat 18 o) = o := by
    rw [offsetOf_eq_mod, htoNat]
    omega
  rcases s.hostWrite_cases (BitVec.ofNat 18 o) v with ⟨-, hcmd, -⟩ | ⟨-, hbusy, -⟩ | ⟨-, -, e⟩
  · exact absurd (hoffset.symm.trans hcmd) h0
  · simp [hb] at hbusy
  · rw [e, hregion, hoffset]; rfl

/-! ### Register bytes after the update of one register (R106)

VALID is read in STATUS alone; each register the host writes is read at its own offsets. -/

theorem regRead_closeAperture (s : State) {o : Nat} (h : o ≠ 0x01) : s.closeAperture.regRead o = s.regRead o := by
  unfold regRead
  split
  · exact absurd rfl h
  all_goals rfl

theorem regRead_update_txLabel (s : State) (l : Byte) {o : Nat} (h : o ≠ 0x04) :
    ({ s with txLabel := l } : State).regRead o = s.regRead o := by
  unfold regRead
  split
  case h_4 => exact absurd rfl h
  all_goals rfl

theorem regRead_update_rxLabel (s : State) (l : Byte) {o : Nat} (h : o ≠ 0x08) :
    ({ s with rxLabel := l } : State).regRead o = s.regRead o := by
  unfold regRead
  split
  case h_7 => exact absurd rfl h
  all_goals rfl

theorem regRead_update_txSize (s : State) (z : U16) {o : Nat}
    (h : ∀ k < 2, o = 0x06 + k → byteOf z k = byteOf s.txSize k) :
    ({ s with txSize := z } : State).regRead o = s.regRead o := by
  unfold regRead
  split
  case h_5 => exact h 0 (by decide) rfl
  case h_6 => exact h 1 (by decide) rfl
  all_goals rfl

theorem regRead_update_rxSize (s : State) (z : U16) {o : Nat}
    (h : ∀ k < 2, o = 0x0A + k → byteOf z k = byteOf s.rxSize k) :
    ({ s with rxSize := z } : State).regRead o = s.regRead o := by
  unfold regRead
  split
  case h_8 => exact h 0 (by decide) rfl
  case h_9 => exact h 1 (by decide) rfl
  all_goals rfl

theorem regRead_update_flen (s : State) (n : U32) {o : Nat}
    (h : ∀ k < 4, o = 0x0C + k → byteOf n k = byteOf s.flen k) :
    ({ s with flen := n } : State).regRead o = s.regRead o := by
  unfold regRead
  split
  case h_10 => exact h 0 (by decide) rfl
  case h_11 => exact h 1 (by decide) rfl
  case h_12 => exact h 2 (by decide) rfl
  case h_13 => exact h 3 (by decide) rfl
  all_goals rfl

/-! ### Register bytes after the write of one byte (R64, R107) -/

theorem regRead_setByte_txSize (s : State) (v : Byte) {o j : Nat} (hj : j < 2) (h : o ≠ 0x06 + j) :
    ({ s with txSize := setByte16 s.txSize j v } : State).regRead o = s.regRead o :=
  s.regRead_update_txSize _ fun k hk ho => by rw [byteOf_setByte16 _ _ hj hk, if_neg (by omega)]

theorem regRead_setByte_rxSize (s : State) (v : Byte) {o j : Nat} (hj : j < 2) (h : o ≠ 0x0A + j) :
    ({ s with rxSize := setByte16 s.rxSize j v } : State).regRead o = s.regRead o :=
  s.regRead_update_rxSize _ fun k hk ho => by rw [byteOf_setByte16 _ _ hj hk, if_neg (by omega)]

theorem regRead_setByte_flen (s : State) (v : Byte) {o j : Nat} (hj : j < 4) (h : o ≠ 0x0C + j) :
    ({ s with flen := setByte32 s.flen j v } : State).regRead o = s.regRead o :=
  s.regRead_update_flen _ fun k hk ho => by rw [byteOf_setByte32 _ _ hj hk, if_neg (by omega)]

/-- A register write changes no byte but the one written and STATUS, where VALID may fall. -/
theorem regRead_regWrite_other (s : State) (v : Byte) {o o' : Nat} (hne : o' ≠ o) (hstatus : o' ≠ 0x01) :
    (s.regWrite o v).regRead o' = s.regRead o' := by
  unfold regWrite
  split
  case h_1 => exact s.regRead_update_txLabel v hne
  case h_2 => exact s.regRead_setByte_txSize v (by decide) hne
  case h_3 => exact s.regRead_setByte_txSize v (by decide) hne
  case h_4 => exact (regRead_closeAperture _ hstatus).trans (s.regRead_update_rxLabel v hne)
  case h_5 => exact (regRead_closeAperture _ hstatus).trans (s.regRead_setByte_rxSize v (by decide) hne)
  case h_6 => exact (regRead_closeAperture _ hstatus).trans (s.regRead_setByte_rxSize v (by decide) hne)
  case h_7 => exact (regRead_closeAperture _ hstatus).trans (s.regRead_setByte_flen v (by decide) hne)
  case h_8 => exact (regRead_closeAperture _ hstatus).trans (s.regRead_setByte_flen v (by decide) hne)
  case h_9 => exact (regRead_closeAperture _ hstatus).trans (s.regRead_setByte_flen v (by decide) hne)
  case h_10 => exact (regRead_closeAperture _ hstatus).trans (s.regRead_setByte_flen v (by decide) hne)
  case h_11 => rfl

/-- The offsets that RegWrite stores to (R107). -/
def writableOffsets : List Nat := [0x04, 0x06, 0x07, 0x08, 0x0A, 0x0B, 0x0C, 0x0D, 0x0E, 0x0F]

/-- A writable offset reads back the byte written. -/
theorem regRead_regWrite_same (s : State) (v : Byte) {o : Nat} (ho : o ∈ writableOffsets) :
    (s.regWrite o v).regRead o = v := by
  simp only [writableOffsets, List.mem_cons, List.not_mem_nil, or_false] at ho
  rcases ho with rfl | rfl | rfl | rfl | rfl | rfl | rfl | rfl | rfl | rfl
  · rfl
  · exact byteOf_setByte16_same s.txSize v (k := 0) (by decide)
  · exact byteOf_setByte16_same s.txSize v (k := 1) (by decide)
  · rfl
  · exact byteOf_setByte16_same s.rxSize v (k := 0) (by decide)
  · exact byteOf_setByte16_same s.rxSize v (k := 1) (by decide)
  · exact byteOf_setByte32_same s.flen v (k := 0) (by decide)
  · exact byteOf_setByte32_same s.flen v (k := 1) (by decide)
  · exact byteOf_setByte32_same s.flen v (k := 2) (by decide)
  · exact byteOf_setByte32_same s.flen v (k := 3) (by decide)

theorem ne_zero_and_lt_of_mem_writableOffsets {o : Nat} (ho : o ∈ writableOffsets) : o ≠ 0 ∧ o < 65536 := by
  simp only [writableOffsets, List.mem_cons, List.not_mem_nil, or_false] at ho
  omega

/-! ### The operands of an operation (R72)

The descriptors and TXBUF are written by idle host writes and by RESET only. -/

/-- Both descriptors and TXBUF. -/
def operands (s : State) : Byte × U16 × Byte × U16 × Memory := (s.txLabel, s.txSize, s.rxLabel, s.rxSize, s.txbuf)

theorem operands_eq_iff {s t : State} :
    t.operands = s.operands ↔
      t.txLabel = s.txLabel ∧ t.txSize = s.txSize ∧ t.rxLabel = s.rxLabel ∧ t.rxSize = s.rxSize ∧ t.txbuf = s.txbuf := by
  simp [operands]

@[simp] theorem operands_encStep (s : State) : s.encStep.operands = s.operands := by
  unfold encStep; split <;> rfl

@[simp] theorem operands_decStep (s : State) : s.decStep.operands = s.operands := by
  unfold decStep; split <;> rfl

@[simp] theorem operands_coreTurn (s : State) : s.coreTurn.operands = s.operands := by
  rcases s.coreTurn_cases with ⟨_, e⟩ | ⟨_, e⟩ | e <;> simp [e]

@[simp] theorem operands_writeCount (s : State) (c : U32) : (s.writeCount c).operands = s.operands := by
  unfold writeCount; split <;> rfl

/-- An instruction run with BUSY = 1 keeps the operands. -/
theorem Effect.operands_eq {i : Instr} {s t : State} (h : s.Effect i t) (hb : s.busy = true) :
    t.operands = s.operands := by
  cases h with
  | ignored ts => rfl
  | read a => rfl
  | rejected => rfl
  | issued op hi idle => simp [hb] at idle
  | wrote r o v ts idle => simp [hb] at idle
  | encoded hp => exact s.operands_encStep
  | counted c hw => exact s.operands_writeCount c
  | failed e dir hw => rfl
  | replied b hr hl => rfl

/-! ### A host word while BUSY = 1 (R105, R204) -/

/-- `t` is `s` but for REJ and the model's own records of the ports. -/
def SameButRej (s t : State) : Prop :=
  t = { s with rej := t.rej, schedule := t.schedule, hostReads := t.hostReads }

theorem cmdWrite_of_busy {s : State} (v : Byte) (hb : s.busy = true) : s.cmdWrite v = s.reject := by
  simp [cmdWrite, hb]

theorem SameButRej.cmdWrite {s : State} (v : Byte) (hb : s.busy = true) : s.SameButRej (s.cmdWrite v) := by
  rw [cmdWrite_of_busy v hb]; rfl

theorem SameButRej.hostWrite {s : State} (a : HostAddr) (v : Byte) (hb : s.busy = true) :
    s.SameButRej (s.hostWrite a v) := by
  rcases s.hostWrite_cases a v with ⟨-, -, e⟩ | ⟨-, -, e⟩ | ⟨-, hidle, -⟩
  · rw [e]; exact .cmdWrite v hb
  · rw [e]; rfl
  · simp [hb] at hidle

theorem SameButRej.hostProgram {s : State} (ws : List (HostAddr × Byte)) (hb : s.busy = true) :
    s.SameButRej (s.hostProgram ws) := by
  cases ws with
  | nil => rfl
  | cons w ws => exact congrArg (pushTurns · (ws.map writeTurn)) (SameButRej.hostWrite w.1 w.2 hb)

end State

/-- A host word presented while BUSY = 1 can only set REJ or read. -/
theorem exec_hostWord_of_busy {i : Instr} {s t : State} (hi : Spec.isHostWord i = true) (hb : s.busy = true)
    (h : exec i s = .next t) : s.SameButRej t := by
  cases i <;> obtain rfl := Host.Outcome.next.inj h
  case rd8 => rfl
  case wr8 a v => exact .hostWrite a v hb
  case cmdEncode | cmdDecode | cmdTransact | cmdReserved00 | cmdReserved04 | cmdReserved08 | cmdReserved10 |
      cmdReserved20 | cmdReserved40 | cmdReserved80 => exact .cmdWrite _ hb
  case txReq | rxReq | wrCount | wrErr | rdData | rdErr => cases hi
  case getParametersRequest | getParametersReply | getSerialNumberRequest | getSerialNumberReply =>
    exact .hostProgram _ hb

/-- A step with BUSY = 1 whose turn is not RESET keeps the operands (R72). -/
theorem operands_eq_of_step {s t : State} (hb : s.busy = true) (hs : step s = .next t)
    (hreset : ∀ d, s.nextTurn ≠ .reset d) : t.operands = s.operands := by
  rcases step_next_cases hs with ⟨_, _, _, _, he⟩ | ⟨_, rfl⟩ | ⟨d, hturn, _⟩
  · exact (exec_effect he).operands_eq hb
  · exact s.popTurn.operands_coreTurn
  · exact absurd hturn (hreset d)

/-! ### RxReq, the step that sends a read request (R160, R164) -/

theorem exec_rxReq (n : Nat) (s : State) :
    exec (.rxReq n) s =
      .next (if s.awaitsWrite = true ∧ n = s.replyLength then s.writeCount s.flen else s) := rfl

theorem exec_rxReq_unsent {n : Nat} {s : State} (h : ¬(s.awaitsWrite = true ∧ n = s.replyLength)) :
    exec (.rxReq n) s = .next s := by
  rw [exec_rxReq, if_neg h]

theorem State.awaitsWrite_iff (s : State) : s.awaitsWrite = true ↔ s.phase = .txw ∧ s.pend = .tx := by
  simp [State.awaitsWrite]

/-- The acceptance of the full count (R164). -/
theorem State.writeCount_flen (s : State) :
    s.writeCount s.flen = { s with txCount := s.flen }.sendRxReq s.replyLength := if_pos rfl

/-! ### The requests of a run (R73, R160) -/

/-- No step of a run writes MAX_PAYLOAD (R6). -/
theorem cfg_eq_of_run {k : Nat} : ∀ {s t : State}, run k s = .next t → t.cfg = s.cfg := by
  induction k with
  | zero => intro s t h; exact congrArg State.cfg (Host.Outcome.next.inj h).symm
  | succ k ih =>
    intro s t h
    rw [run] at h
    split at h
    · next u hu => exact (ih h).trans (cfg_eq_of_step hu)
    · cases h
    · cases h

/-- A legal frame has from 5 to MAX_FRAME bytes. -/
theorem Request.legal_txReq_iff (c : Config) (f : List Byte) :
    (Request.txReq f).legal c = true ↔ 5 ≤ f.length ∧ f.length ≤ c.maxPayload + 5 := by
  rw [Request.legal, Config.maxFrame, Bool.and_eq_true, decide_eq_true_eq, decide_eq_true_eq]

/-- A legal read asks for 5 to MAX_FRAME bytes. -/
theorem Request.legal_rxReq_iff (c : Config) (n : Nat) :
    (Request.rxReq n).legal c = true ↔ 5 ≤ n ∧ n ≤ c.maxPayload + 5 := by
  rw [Request.legal, Config.maxFrame, Bool.and_eq_true, decide_eq_true_eq, decide_eq_true_eq]

/-! ### The obligations -/

/-- Settles O49: the port's part of the invariant, in every reachable state and for the MAX_PAYLOAD the run began with. -/
theorem transportRequestsAreLegalAndOrdered : Obligations.TransportRequestsAreLegalAndOrdered := by
  intro c d turns k t hr
  obtain ⟨hlegal, horder, -⟩ := (State.Inv.of_run_resetWith hr).port
  have hcfg : t.cfg = c := cfg_eq_of_run hr
  rw [hcfg, List.all_eq_true] at hlegal
  refine ⟨horder, fun r hmem => ?_⟩
  cases r with
  | txReq f => exact (Request.legal_txReq_iff c f).1 (hlegal _ hmem)
  | rxReq n => exact (Request.legal_rxReq_iff c n).1 (hlegal _ hmem)

/-- Settles O51: with BUSY = 1 every effect keeps the operands, and a host word can only set REJ or read. -/
theorem operandsAreFrozenWhileBusy : Obligations.OperandsAreFrozenWhileBusy := by
  intro s t hb hs hreset
  obtain ⟨htxl, htxs, hrxl, hrxs, htxbuf⟩ := State.operands_eq_iff.1 (operands_eq_of_step hb hs hreset)
  refine ⟨htxl, htxs, hrxl, hrxs, htxbuf, fun bytes i hturn hdec hi => ?_⟩
  rw [step_of_word hturn hdec] at hs
  have hsame : s.popTurn.SameButRej t := exec_hostWord_of_busy hi hb hs
  rw [hsame]
  exact ⟨rfl, rfl, hb, rfl⟩

/-- Settles O18: the write is RegWrite of the offset, which changes that byte and at most VALID in STATUS. -/
theorem writtenRegisterByteReadsBack : Obligations.WrittenRegisterByteReadsBack := by
  intro s o v ho hb
  obtain ⟨h0, hlt⟩ := State.ne_zero_and_lt_of_mem_writableOffsets ho
  refine ⟨s.regWrite o v, ?_, s.regRead_regWrite_same v ho, fun o' hne hst => s.regRead_regWrite_other v hne hst⟩
  rw [exec_wr8, State.hostWrite_register v hb hlt h0]

/-- Settles O17: an aperture write is dropped while BUSY = 1 and stores nothing otherwise. -/
theorem apertureWritesAreIgnored : Obligations.ApertureWritesAreIgnored := by
  intro s addr v h
  rw [exec_wr8, s.hostWrite_of_rxpay v (regionOf_eq_rxpay h)]

/-- Settles O31: the row acts exactly when a TxReq is outstanding and the length is that of the reply. -/
theorem rxReqIsSentByTheFullCount : Obligations.RxReqIsSentByTheFullCount := by
  intro s
  refine ⟨fun hphase hpend => ?sent, fun n hn => ?otherLength, fun n hphase => ?otherPhase⟩
  case sent =>
    have hwait : s.awaitsWrite = true := s.awaitsWrite_iff.2 ⟨hphase, hpend⟩
    rw [exec_rxReq, if_pos ⟨hwait, rfl⟩, s.writeCount_flen]
    rfl
  case otherLength => exact exec_rxReq_unsent fun ⟨_, hlen⟩ => hn hlen
  case otherPhase => exact exec_rxReq_unsent fun ⟨hwait, _⟩ => hphase (s.awaitsWrite_iff.1 hwait).1

end Sys2Proof.Machine

/-! ## The encodings (spec/30_encoding.md): the reading of the CMD bytes, the bus-op words, the message operands and the catalog
frames, and the statements O1, O2, O3, O4 and O6. -/

namespace Sys2Proof

open Machine

/-! ### CMD bytes (R86) -/

/-- The CMD byte of each row of the encoding: R86's operations and reserved patterns. -/
inductive CmdRow : Byte → Instr → Prop
  | issueEncode : CmdRow 0x01 .cmdEncode
  | issueDecode : CmdRow 0x02 .cmdDecode
  | issueTransact : CmdRow 0x03 .cmdTransact
  | reserved00 : CmdRow 0x00 .cmdReserved00
  | reserved04 (low : BitVec 2) : CmdRow (0b000001#6 ++ low) (.cmdReserved04 low)
  | reserved08 (low : BitVec 3) : CmdRow (0b00001#5 ++ low) (.cmdReserved08 low)
  | reserved10 (low : BitVec 4) : CmdRow (0b0001#4 ++ low) (.cmdReserved10 low)
  | reserved20 (low : BitVec 5) : CmdRow (0b001#3 ++ low) (.cmdReserved20 low)
  | reserved40 (low : BitVec 6) : CmdRow (0b01#2 ++ low) (.cmdReserved40 low)
  | reserved80 (low : BitVec 7) : CmdRow (0b1#1 ++ low) (.cmdReserved80 low)

theorem extractLsb'_one_eq_one_iff {w : Nat} (v : BitVec w) (k : Nat) :
    v.extractLsb' k 1 = 1 ↔ v.toNat / 2 ^ k % 2 = 1 := by
  simp [← BitVec.toNat_inj, BitVec.extractLsb'_toNat, Nat.shiftRight_eq_div_pow]

/-- A value is its fixed high bits over the low bits the decoder takes as operand. -/
theorem append_extractLsb'_of_high {m n : Nat} {hi : BitVec m} {v : BitVec (m + n)} (h : v.toNat / 2 ^ n = hi.toNat) :
    hi ++ v.extractLsb' 0 n = v := by
  have hhi : hi = v.extractLsb' n m := by
    apply BitVec.eq_of_toNat_eq
    rw [BitVec.extractLsb'_toNat, Nat.shiftRight_eq_div_pow, h, Nat.mod_eq_of_lt hi.isLt]
  rw [hhi, BitVec.extractLsb'_append_extractLsb']

/-- The decoder reads every byte as one of the rows: the highest set bit picks the reserved one. -/
theorem cmdRow_decodeCmd (op : Byte) : CmdRow op (decodeCmd op) := by
  have hlt := op.isLt
  unfold decodeCmd
  simp only [extractLsb'_one_eq_one_iff]
  split_ifs with h0 h1 h2 h3
  · exact h0 ▸ .reserved00
  · exact h1 ▸ .issueEncode
  · exact h2 ▸ .issueDecode
  · exact h3 ▸ .issueTransact
  · have row := CmdRow.reserved80 (op.extractLsb' 0 7)
    rwa [append_extractLsb'_of_high (hi := 1#1) (show op.toNat / 2 ^ 7 = 1 by omega)] at row
  · have row := CmdRow.reserved40 (op.extractLsb' 0 6)
    rwa [append_extractLsb'_of_high (hi := 1#2) (show op.toNat / 2 ^ 6 = 1 by omega)] at row
  · have row := CmdRow.reserved20 (op.extractLsb' 0 5)
    rwa [append_extractLsb'_of_high (hi := 1#3) (show op.toNat / 2 ^ 5 = 1 by omega)] at row
  · have row := CmdRow.reserved10 (op.extractLsb' 0 4)
    rwa [append_extractLsb'_of_high (hi := 1#4) (show op.toNat / 2 ^ 4 = 1 by omega)] at row
  · have row := CmdRow.reserved08 (op.extractLsb' 0 3)
    rwa [append_extractLsb'_of_high (hi := 1#5) (show op.toNat / 2 ^ 3 = 1 by omega)] at row
  · have row := CmdRow.reserved04 (op.extractLsb' 0 2)
    simp only [← BitVec.toNat_inj, BitVec.ofNat_eq_ofNat, BitVec.reduceToNat] at h0 h1 h2 h3
    rwa [append_extractLsb'_of_high (hi := 1#6) (show op.toNat / 2 ^ 2 = 1 by omega)] at row

/-- A byte above 0x03 is a reserved one, read by its highest set bit. -/
theorem decodeCmd_of_three_lt {op : Byte} (h : 3 < op.toNat) :
    decodeCmd op =
      if op.extractLsb' 7 1 = 1 then .cmdReserved80 (op.extractLsb' 0 7)
      else if op.extractLsb' 6 1 = 1 then .cmdReserved40 (op.extractLsb' 0 6)
      else if op.extractLsb' 5 1 = 1 then .cmdReserved20 (op.extractLsb' 0 5)
      else if op.extractLsb' 4 1 = 1 then .cmdReserved10 (op.extractLsb' 0 4)
      else if op.extractLsb' 3 1 = 1 then .cmdReserved08 (op.extractLsb' 0 3)
      else .cmdReserved04 (op.extractLsb' 0 2) := by
  have hne (v : Byte) (hv : v.toNat ≤ 3) : op ≠ v := by
    rintro rfl
    omega
  rw [decodeCmd, if_neg (hne _ (by decide)), if_neg (hne _ (by decide)), if_neg (hne _ (by decide)),
    if_neg (hne _ (by decide))]

/-- A byte that selects no operation is rejected, busy or not (R104, R105). -/
theorem Machine.State.cmdWrite_of_opOf_eq_none (s : State) {v : Byte} (h : opOf v = none) : s.cmdWrite v = s.reject := by
  rcases s.cmdWrite_cases v with ⟨e, _⟩ | ⟨op, _, hop, _⟩
  · exact e
  · cases h.symm.trans hop

namespace CmdRow

variable {op : Byte} {i : Instr}

theorem encode_eq (h : CmdRow op i) : encode i = [op] := by
  cases h <;> rfl

/-- The decoder reads a row's byte as that row: the fixed bits pick it and the operand is the rest. -/
theorem decodeCmd_eq (h : CmdRow op i) : decodeCmd op = i := by
  cases h
  case issueEncode | issueDecode | issueTransact | reserved00 => rfl
  case reserved04 low | reserved08 low | reserved10 low | reserved20 low | reserved40 low | reserved80 low =>
    rw [decodeCmd_of_three_lt (three_lt_toNat_append low (by decide) (by decide))]
    simp (disch := decide) only [BitVec.extractLsb'_append_eq_of_le, BitVec.extractLsb'_append_eq_of_add_le,
      BitVec.extractLsb'_eq_self]
    rfl

theorem decode_eq (h : CmdRow op i) : decode [op] = .ok i :=
  congrArg Except.ok h.decodeCmd_eq

/-- Every CMD row is the host's write of its byte to CMD. -/
theorem exec_eq (h : CmdRow op i) (s : State) : exec i s = .next (s.cmdWrite op) := by
  cases h <;> rfl

end CmdRow

/-! ### Bus-op words (R89) -/

theorem toNat_append_eq_add {m n : Nat} (hi : BitVec m) (lo : BitVec n) :
    (hi ++ lo).toNat = hi.toNat * 2 ^ n + lo.toNat := by
  rw [BitVec.toNat_append, Nat.shiftLeft_eq, Nat.mul_comm, ← Nat.two_pow_add_eq_or_of_lt lo.isLt]

theorem toNat_busOpWord (w : BitVec 1) (a : HostAddr) (d : Byte) :
    (busOpWord w a d).toNat = w.toNat * 2 ^ 26 + a.toNat * 2 ^ 8 + d.toNat := by
  rw [busOpWord, toNat_append_eq_add, toNat_append_eq_add, toNat_append_eq_add]
  rw [BitVec.toNat_ofNat, Nat.zero_mod]
  omega

/-- A word whose bits 31..27 are 0 is the bus-op word of its fields. -/
theorem busOpWord_extractLsb' {v : U32} (h : v.extractLsb' 27 5 = 0) :
    busOpWord (v.extractLsb' 26 1) (v.extractLsb' 8 18) (v.extractLsb' 0 8) = v := by
  have hhigh : 0#5 ++ v.extractLsb' 26 1 = v.extractLsb' 26 6 := by
    rw [← show v.extractLsb' 27 5 = 0#5 from h]
    exact BitVec.extractLsb'_append_extractLsb'_eq_extractLsb' rfl
  have hlow : v.extractLsb' 8 18 ++ v.extractLsb' 0 8 = v.extractLsb' 0 26 :=
    BitVec.extractLsb'_append_extractLsb'_eq_extractLsb' rfl
  rw [busOpWord, hhigh, hlow]
  exact BitVec.extractLsb'_append_extractLsb'

@[simp] theorem decode_bytesOf32 (v : U32) : decode (bytesOf32 v) = decodeBusOp v :=
  congrArg decodeBusOp (le32_byteOf v)

/-- The bus-op word of a read decodes to that read; `decode_wr8` says it of a write. -/
theorem decode_rd8 (a : HostAddr) (d : Byte) : decode (encode (.rd8 a d)) = .ok (.rd8 a d) := by
  rw [encode, decode_bytesOf32]
  simp (disch := decide) only [decodeBusOp, busOpWord, BitVec.extractLsb'_append_eq_of_le,
    BitVec.extractLsb'_append_eq_of_add_le, BitVec.extractLsb'_eq_self]
  simp

theorem encode_of_decodeBusOp {v : U32} {i : Instr} (h : decodeBusOp v = .ok i) : encode i = bytesOf32 v := by
  unfold decodeBusOp at h
  split_ifs at h with hhigh hw
  case pos =>
    obtain rfl := Except.ok.inj h
    rw [encode, ← hw, busOpWord_extractLsb' (not_not.1 hhigh)]
  case neg =>
    obtain rfl := Except.ok.inj h
    have hw0 : v.extractLsb' 26 1 = 0 := (BitVec.eq_zero_or_eq_one _).resolve_right hw
    rw [encode, ← hw0, busOpWord_extractLsb' (not_not.1 hhigh)]

theorem tableBytes_32 (n : Nat) : tableBytes 32 n = bytesOf32 (BitVec.ofNat 32 n) := by
  simp [tableBytes, bytesOfNat, bytesOf32, ← BitVec.toNat_inj, toNat_byteOf]
  omega

/-- R89's formula read as a 32-bit table word is the bus-op word of the fields. -/
theorem tableBytes_busOpWord (w : BitVec 1) (a : HostAddr) (d : Byte) :
    tableBytes 32 (w.toNat * 2 ^ 26 + a.toNat * 2 ^ 8 + d.toNat) = bytesOf32 (busOpWord w a d) := by
  rw [tableBytes_32, ← toNat_busOpWord, BitVec.ofNat_toNat, BitVec.setWidth_eq]

/-! ### Messages (R160) and frames (R141 to R144) -/

theorem decode_cons_of_three_lt {tag : Byte} {rest : List Byte} (h : 3 < rest.length) :
    decode (tag :: rest) = decodeTagged tag rest := by
  match rest, h with
  | _ :: _ :: _ :: _ :: _, _ => rfl

theorem decodeByteOperand_eq_ok_iff {mk : Byte → Instr} {bytes : List Byte} {i : Instr} :
    decodeByteOperand mk bytes = .ok i ↔ ∃ e, bytes = [e] ∧ mk e = i := by
  constructor
  · intro h
    unfold decodeByteOperand at h
    split at h
    · next e => exact ⟨e, rfl, Except.ok.inj h⟩
    · cases h
  · rintro ⟨e, rfl, rfl⟩
    rfl

theorem decodeWordOperand_eq_ok_iff {mk : U32 → Instr} {bytes : List Byte} {i : Instr} :
    decodeWordOperand mk bytes = .ok i ↔ ∃ v, bytes = bytesOf32 v ∧ mk v = i := by
  constructor
  · intro h
    unfold decodeWordOperand at h
    split at h
    · next b0 b1 b2 b3 => exact ⟨le32 b0 b1 b2 b3, by simp [bytesOf32], Except.ok.inj h⟩
    · cases h
  · rintro ⟨v, rfl, rfl⟩
    exact congrArg (fun u => Except.ok (mk u)) (le32_byteOf v)

theorem encode_of_decodeFrame {bytes : List Byte} {i : Instr} (h : decodeFrame bytes = .ok i) :
    encode i = startByte :: bytes := by
  unfold decodeFrame at h
  split at h
  case h_5 => cases h
  all_goals
    split_ifs at h with hf
    obtain ⟨rfl, rfl, rfl, rfl⟩ := hf
    obtain rfl := Except.ok.inj h
    simp only [encode, byteOf_le16_zero, byteOf_le16_one]
    rfl

theorem encode_of_decodeTagged {tag : Byte} {rest : List Byte} {i : Instr} (h : decodeTagged tag rest = .ok i) :
    encode i = tag :: rest := by
  unfold decodeTagged at h
  split_ifs at h with hstart htx hrx hwc hwe hrd hre
  · exact hstart ▸ encode_of_decodeFrame h
  · obtain rfl := Except.ok.inj h
    rw [htx, encode]
  · obtain ⟨v, rfl, rfl⟩ := decodeWordOperand_eq_ok_iff.1 h
    simp [hrx, encode]
  · obtain ⟨v, rfl, rfl⟩ := decodeWordOperand_eq_ok_iff.1 h
    rw [hwc, encode]
  · obtain ⟨e, rfl, rfl⟩ := decodeByteOperand_eq_ok_iff.1 h
    rw [hwe, encode]
  · obtain rfl := Except.ok.inj h
    rw [hrd, encode]
  · obtain ⟨e, rfl, rfl⟩ := decodeByteOperand_eq_ok_iff.1 h
    rw [hre, encode]

/-! ### The obligations -/

/-- Settles O1: a CMD byte by its row, a bus-op word by its fields, a message by its tag and operand, a catalog frame by its
length and header. Only the three messages with a length bound need the well-formedness: a four-byte TxReq or RdData would
read as a bus-op word, and an RxReq length beyond 32 bits would be cut. -/
theorem decodeOfEncodeIsTheInstruction : Obligations.DecodeOfEncodeIsTheInstruction := by
  intro i hwf
  cases i
  case rd8 a d => exact decode_rd8 a d
  case wr8 a v => exact decode_wr8 a v
  case cmdEncode => exact CmdRow.issueEncode.decode_eq
  case cmdDecode => exact CmdRow.issueDecode.decode_eq
  case cmdTransact => exact CmdRow.issueTransact.decode_eq
  case cmdReserved00 => exact CmdRow.reserved00.decode_eq
  case cmdReserved04 low => exact (CmdRow.reserved04 low).decode_eq
  case cmdReserved08 low => exact (CmdRow.reserved08 low).decode_eq
  case cmdReserved10 low => exact (CmdRow.reserved10 low).decode_eq
  case cmdReserved20 low => exact (CmdRow.reserved20 low).decode_eq
  case cmdReserved40 low => exact (CmdRow.reserved40 low).decode_eq
  case cmdReserved80 low => exact (CmdRow.reserved80 low).decode_eq
  case txReq f =>
    have hlen := of_decide_eq_true hwf
    exact decode_cons_of_three_lt (by omega)
  case rxReq n =>
    have hlen := of_decide_eq_true hwf
    have hn : (BitVec.ofNat 32 n).toNat = n := by
      rw [BitVec.toNat_ofNat, Nat.mod_eq_of_lt (by omega)]
    exact (decodeWordOperand_eq_ok_iff (mk := fun v => .rxReq v.toNat)).2 ⟨BitVec.ofNat 32 n, rfl, congrArg Instr.rxReq hn⟩
  case wrCount c => exact decodeWordOperand_eq_ok_iff.2 ⟨c, rfl, rfl⟩
  case wrErr e => rfl
  case rdData b =>
    have hlen := of_decide_eq_true hwf
    exact decode_cons_of_three_lt (by omega)
  case rdErr e => rfl
  case getParametersRequest p => exact congrArg (Except.ok ∘ Instr.getParametersRequest) (le16_byteOf p)
  case getParametersReply a b c d r => rfl
  case getSerialNumberRequest => rfl
  case getSerialNumberReply s0 s1 s2 s3 => rfl

/-- Settles O2: by the form of the accepted bytes, one byte, four bytes or a first byte that names the message or frame. -/
theorem acceptedBytesAreTheEncoding : Obligations.AcceptedBytesAreTheEncoding := by
  intro bytes i h
  unfold decode at h
  split at h
  · cases h
  · next op =>
    obtain rfl := Except.ok.inj h
    exact (cmdRow_decodeCmd op).encode_eq
  · next b0 b1 b2 b3 =>
    rw [encode_of_decodeBusOp h]
    simp [bytesOf32]
  · exact encode_of_decodeTagged h

/-- Settles O3: the number is the bus-op word of its fields, and that word is the encoding of the write or the read. -/
theorem busOpWordFieldsAreDecoded : Obligations.BusOpWordFieldsAreDecoded := by
  intro a v
  rw [decodeTableWord_eq_some_iff, decodeTableWord_eq_some_iff]
  exact ⟨(congrArg decode (tableBytes_busOpWord 1 a v)).trans (decode_wr8 a v),
    (congrArg decode (tableBytes_busOpWord 0 a 0)).trans (decode_rd8 a 0)⟩

/-- Settles O4: a byte runs as the host's write of it to CMD, and one that selects no operation is rejected there. -/
theorem cmdBytesDecodeToTheirOperation : Obligations.CmdBytesDecodeToTheirOperation := by
  refine ⟨CmdRow.issueEncode.decode_eq, CmdRow.issueDecode.decode_eq, CmdRow.issueTransact.decode_eq,
    fun op h1 h2 h3 => ⟨decodeCmd op, rfl, fun s => ?_⟩⟩
  have hop : opOf op = none := by simp only [opOf, h1, h2, h3, if_false]
  rw [(cmdRow_decodeCmd op).exec_eq, s.cmdWrite_of_opOf_eq_none hop, State.reject]

/-- Settles O6: each word is an instance of the readings above. -/
theorem writtenOutWordsDecode : Obligations.WrittenOutWordsDecode := by
  refine ⟨(busOpWordFieldsAreDecoded 0x00004 0x03).1, (busOpWordFieldsAreDecoded 0x00001 0).2,
    (busOpWordFieldsAreDecoded 0x20008 0xE7).1, ?_, ?_, ?_, ?_⟩
  · exact decodeTableWord_eq_some_iff.2 CmdRow.issueTransact.decode_eq
  · exact decodeTableWord_eq_some_iff.2 (CmdRow.reserved04 0).decode_eq
  · exact decodeTableWord_eq_some_iff.2 (CmdRow.reserved80 0x7F).decode_eq
  · exact decodeOfEncodeIsTheInstruction (.getSerialNumberReply 1 2 3 4) rfl

end Sys2Proof

/-! ## The host port (spec/40_host_access.md): the region of an address, reads and writes by region, the CMD rows as
writes to CMD, the issue, and the statements O9, O11, O12, O13, O14, O15, O19, O20, O21 and O55. -/

namespace Sys2Proof.Machine

/-! ### Every instruction answers a next state (R100, R180) -/

/-- The decoder reads an instruction from a decodable word. -/
theorem exists_decode_of_decodable {bytes : List Byte} (h : (Turn.word bytes).decodable = true) :
    ∃ i, decode bytes = .ok i := by
  cases hread : decode bytes with
  | ok i => exact ⟨i, rfl⟩
  | error why => simp [Turn.decodable, hread] at h

/-- No arm of `exec` faults or refuses. -/
theorem exists_exec_eq_next (i : Instr) (s : State) : ∃ t, exec i s = .next t := by
  cases i <;> exact ⟨_, rfl⟩

/-! ### The region of an address (R62) and reads by region (R101, R108) -/

theorem regionOf_eq_ite (a : HostAddr) :
    regionOf a = if a.toNat / 65536 = 0 then .regs else if a.toNat / 65536 = 1 then .txbuf
      else if a.toNat / 65536 = 2 then .fbuf else .rxpay := by
  have hlt := a.isLt
  have hbits : (a.extractLsb' 16 2).toNat = a.toNat / 65536 := by
    simp [BitVec.extractLsb'_toNat, Nat.shiftRight_eq_div_pow]
    omega
  unfold regionOf
  rw [hbits]
  split <;> simp_all

theorem regionOf_eq_txbuf {a : HostAddr} (h : a.toNat / 65536 = 1) : regionOf a = .txbuf := by
  simp [regionOf_eq_ite, h]

theorem regionOf_eq_fbuf {a : HostAddr} (h : a.toNat / 65536 = 2) : regionOf a = .fbuf := by
  simp [regionOf_eq_ite, h]

theorem exec_rd8 (a : HostAddr) (d : Byte) (s : State) :
    exec (.rd8 a d) s = .next { s with hostReads := s.hostReads ++ [s.hostRead a] } := rfl

namespace State

theorem hostRead_of_regs (s : State) {a : HostAddr} (h : regionOf a = .regs) :
    s.hostRead a = s.regRead (a.toNat % 65536) := by
  rw [hostRead, h, offsetOf_eq_mod]

theorem hostRead_of_txbuf (s : State) {a : HostAddr} (h : regionOf a = .txbuf) :
    s.hostRead a = if a.toNat % 65536 < s.cfg.maxPayload then s.txbuf.read (a.toNat % 65536) else 0 := by
  rw [hostRead, h, offsetOf_eq_mod, Memory.readWithin]

/-- FBUF is read inside its storage and with BUSY = 0 only. -/
theorem hostRead_of_fbuf (s : State) {a : HostAddr} (h : regionOf a = .fbuf) :
    s.hostRead a =
      if s.busy = false ∧ a.toNat % 65536 < s.cfg.maxPayload + 5 then s.fbuf.read (a.toNat % 65536) else 0 := by
  rw [hostRead, h, offsetOf_eq_mod, Config.maxFrame]
  cases s.busy <;> simp [Memory.readWithin]

theorem hostRead_of_rxpay (s : State) {a : HostAddr} (h : regionOf a = .rxpay) :
    s.hostRead a =
      if s.valid = true ∧ a.toNat % 65536 < s.rxSize.toNat then s.fbuf.read (4 + a.toNat % 65536) else 0 := by
  rw [hostRead, h, offsetOf_eq_mod, apRead]

/-! ### The bytes of the register map (R24, R106) -/

theorem toNat_status (s : State) :
    s.status.toNat = s.lenw.toNat * 16 + s.rej.toNat * 8 + s.valid.toNat * 4 + s.done.toNat * 2 + s.busy.toNat := by
  have hbits : ∀ l r v d b : Bool,
      (bit l <<< 4 ||| bit r <<< 3 ||| bit v <<< 2 ||| bit d <<< 1 ||| bit b).toNat =
        l.toNat * 16 + r.toNat * 8 + v.toNat * 4 + d.toNat * 2 + b.toNat := by decide
  exact hbits s.lenw s.rej s.valid s.done s.busy

theorem regRead_of_reserved (s : State) {o : Nat} (h : 0x1A ≤ o) : s.regRead o = 0 := by
  unfold regRead
  split
  case h_24 => rfl
  all_goals exact absurd h (by decide)

end State

theorem toNat_bytes16 (v : U16) : (byteOf v 0).toNat + 256 * (byteOf v 1).toNat = v.toNat := by
  rw [← toNat_le16, le16_byteOf]

theorem toNat_bytes32 (v : U32) :
    (byteOf v 0).toNat + 2 ^ 8 * (byteOf v 1).toNat + 2 ^ 16 * (byteOf v 2).toNat + 2 ^ 24 * (byteOf v 3).toNat =
      v.toNat := by
  rw [← toNat_le32, le32_byteOf]

/-! ### Stores in a buffer (R63, R102) -/

theorem Memory.store_of_outside {cap a : Nat} (m : Memory) (v : Byte) (h : cap ≤ a) : Memory.store cap m a v = m :=
  if_neg (by omega)

namespace State

theorem hostWrite_outside_regs {s : State} {a : HostAddr} (v : Byte) (hb : s.busy = false) (h : regionOf a ≠ .regs) :
    s.hostWrite a v = s.idleWrite (regionOf a) (a.toNat % 65536) v := by
  rcases s.hostWrite_cases a v with ⟨hr, -, -⟩ | ⟨-, hbusy, -⟩ | ⟨-, -, e⟩
  · exact absurd hr h
  · simp [hb] at hbusy
  · rw [e, offsetOf_eq_mod]

theorem hostWrite_of_txbuf {s : State} {a : HostAddr} (v : Byte) (hb : s.busy = false) (h : regionOf a = .txbuf) :
    s.hostWrite a v = { s with txbuf := Memory.store s.cfg.maxPayload s.txbuf (a.toNat % 65536) v } := by
  rw [hostWrite_outside_regs v hb (by simp [h]), h]
  rfl

theorem hostWrite_of_fbuf {s : State} {a : HostAddr} (v : Byte) (hb : s.busy = false) (h : regionOf a = .fbuf) :
    s.hostWrite a v =
      { s with fbuf := Memory.store (s.cfg.maxPayload + 5) s.fbuf (a.toNat % 65536) v, valid := false } := by
  rw [hostWrite_outside_regs v hb (by simp [h]), h]
  rfl

end State

/-! ### Register writes (R64, R107) -/

theorem toNat_setByte16_zero (v : U16) (b : Byte) : (setByte16 v 0 b).toNat = v.toNat / 256 * 256 + b.toNat := by
  have hlt := v.isLt
  rw [setByte16, toNat_le16, toNat_byteOf]
  omega

theorem toNat_setByte16_one (v : U16) (b : Byte) : (setByte16 v 1 b).toNat = b.toNat * 256 + v.toNat % 256 := by
  have hset : setByte16 v 1 b = le16 (byteOf v 0) b := rfl
  rw [hset, toNat_le16, toNat_byteOf]
  omega

/-- Byte k as the digit k to base 256. -/
theorem toNat_byteOf_eq_digit {w : Nat} (v : BitVec w) (k : Nat) : (byteOf v k).toNat = v.toNat / 256 ^ k % 256 := by
  rw [toNat_byteOf, Nat.pow_mul]

/-- An idle write to an offset of the register file other than CMD. -/
theorem exec_wr8_register {s : State} {o : Nat} (v : Byte) (hb : s.busy = false) (hlt : o < 65536) (h0 : o ≠ 0) :
    exec (.wr8 (BitVec.ofNat 18 o) v) s = .next (s.regWrite o v) := by
  rw [exec_wr8, State.hostWrite_register v hb hlt h0]

namespace State

theorem regWrite_flen (s : State) (v : Byte) {k : Nat} (hk : k < 4) :
    s.regWrite (0x0C + k) v = { s with flen := setByte32 s.flen k v, valid := false } := by
  interval_cases k <;> rfl

theorem regWrite_of_not_mem (s : State) (v : Byte) {o : Nat} (h : o ∉ writableOffsets) : s.regWrite o v = s := by
  unfold regWrite
  split
  case h_11 => rfl
  all_goals exact absurd (by decide) h

end State

/-! ### The CMD rows and the host's writes to CMD (R86, R103 to R105) -/

@[simp] theorem State.hostWrite_cmd (s : State) (v : Byte) : s.hostWrite 0x00000 v = s.cmdWrite v :=
  if_pos (by decide)

theorem exec_wr8_cmd (v : Byte) (s : State) : exec (.wr8 0x00000 v) s = .next (s.cmdWrite v) := by
  rw [exec_wr8, s.hostWrite_cmd]

/-- A CMD row is WR8 of its byte to CMD. -/
theorem exec_eq_wr8_of_cmdRow {v : Byte} {i : Instr} (row : CmdRow v i) (s : State) :
    exec i s = exec (.wr8 0x00000 v) s := by
  rw [row.exec_eq, exec_wr8_cmd]

/-- The word of one byte is that byte's CMD row. -/
theorem cmdRow_of_encode {i : Instr} {v : Byte} (hwf : i.wellFormed = true) (henc : encode i = [v]) : CmdRow v i := by
  have hdec : decode [v] = .ok i := henc ▸ decodeOfEncodeIsTheInstruction i hwf
  have hi : decodeCmd v = i := Except.ok.inj hdec
  exact hi ▸ cmdRow_decodeCmd v

namespace State

theorem issue_of_fits {s : State} {op : Op} (h : s.descTooLarge op = false) :
    s.issue op = Spec.issued s op op.firstPhase := if_neg (by simp [h])

theorem issue_of_tooLarge {s : State} {op : Op} (h : s.descTooLarge op = true) :
    s.issue op = Spec.completed s .descError := if_pos h

end State

/-- The idle CMD row of an operation, by the condition `fits` that its descriptors fit (R103). -/
theorem exec_issue_row {s : State} {v : Byte} {i : Instr} {op : Op} {fits : Prop} (row : CmdRow v i)
    (hop : opOf v = some op) (hb : s.busy = false) (hfits : s.descTooLarge op = false ↔ fits) :
    (fits → exec i s = .next (Spec.issued s op op.firstPhase)) ∧
      (¬fits → exec i s = .next (Spec.completed s .descError)) := by
  rw [row.exec_eq, State.cmdWrite_of_idle hb hop]
  refine ⟨fun h => ?_, fun h => ?_⟩
  · rw [State.issue_of_fits (hfits.2 h)]
  · rw [State.issue_of_tooLarge (Bool.not_eq_false _ ▸ mt hfits.1 h)]

/-- A CMD row whose byte is rejected at CMD. -/
theorem exec_row_of_reject {s : State} {v : Byte} {i : Instr} (row : CmdRow v i) (h : s.cmdWrite v = s.reject) :
    exec i s = .next { s with rej := true } := by
  rw [row.exec_eq, h, State.reject]

/-! ### One access per host word (R100) -/

/-- `i` runs as one WR8, with at most further WR8 words placed before the schedule. -/
def IsOneWrite (i : Instr) (s : State) : Prop :=
  ∃ (a : HostAddr) (v : Byte) (t : State) (more : List (HostAddr × Byte)),
    exec (.wr8 a v) s = .next t ∧ exec i s = .next { t with schedule := Spec.writes more ++ s.schedule }

/-- A program's step is its first write, which leaves the schedule alone. -/
theorem isOneWrite_of_hostProgram {i : Instr} {s : State} {w : HostAddr × Byte} {ws : List (HostAddr × Byte)}
    (h : exec i s = .next (s.hostProgram (w :: ws))) : IsOneWrite i s := by
  refine ⟨w.1, w.2, s.hostWrite w.1 w.2, ws, exec_wr8 w.1 w.2 s, ?_⟩
  rw [h, State.hostProgram, State.pushTurns, State.hostWrite_schedule]
  rfl

theorem isOneWrite_wr8 (a : HostAddr) (v : Byte) (s : State) : IsOneWrite (.wr8 a v) s :=
  isOneWrite_of_hostProgram (w := (a, v)) (ws := []) rfl

theorem isOneWrite_of_cmdRow {v : Byte} {i : Instr} (row : CmdRow v i) (s : State) : IsOneWrite i s := by
  unfold IsOneWrite
  rw [exec_eq_wr8_of_cmdRow row s]
  exact isOneWrite_wr8 0x00000 v s

/-- Every host word but a read runs as one write. -/
theorem isOneWrite_of_hostWord {i : Instr} (s : State) (hi : Spec.isHostWord i = true) (hrd : ∀ a d, i ≠ .rd8 a d) :
    IsOneWrite i s := by
  cases i
  case rd8 a d => exact absurd rfl (hrd a d)
  case wr8 a v => exact isOneWrite_wr8 a v s
  case cmdEncode => exact isOneWrite_of_cmdRow .issueEncode s
  case cmdDecode => exact isOneWrite_of_cmdRow .issueDecode s
  case cmdTransact => exact isOneWrite_of_cmdRow .issueTransact s
  case cmdReserved00 => exact isOneWrite_of_cmdRow .reserved00 s
  case cmdReserved04 low => exact isOneWrite_of_cmdRow (.reserved04 low) s
  case cmdReserved08 low => exact isOneWrite_of_cmdRow (.reserved08 low) s
  case cmdReserved10 low => exact isOneWrite_of_cmdRow (.reserved10 low) s
  case cmdReserved20 low => exact isOneWrite_of_cmdRow (.reserved20 low) s
  case cmdReserved40 low => exact isOneWrite_of_cmdRow (.reserved40 low) s
  case cmdReserved80 low => exact isOneWrite_of_cmdRow (.reserved80 low) s
  case getParametersRequest | getParametersReply | getSerialNumberRequest | getSerialNumberReply =>
    exact isOneWrite_of_hostProgram rfl
  case txReq | rxReq | wrCount | wrErr | rdData | rdErr => cases hi

/-! ### The obligations -/

/-- Settles O9: a decodable word runs an instruction, and every instruction, CORE turn and RESET answers a next state. -/
theorem decodableTurnsAnswerANextState : Obligations.DecodableTurnsAnswerANextState := by
  intro s hdec
  cases hturn : s.nextTurn with
  | word bytes =>
    obtain ⟨i, hi⟩ := exists_decode_of_decodable (hturn ▸ hdec)
    rw [step_of_word hturn hi]
    exact exists_exec_eq_next i s.popTurn
  | core => exact ⟨_, step_of_core hturn⟩
  | reset d => exact ⟨_, step_of_reset hturn⟩

/-- Settles O11: the read of each region, chosen by the address's two high bits. -/
theorem rd8ReturnsTheByteOfItsRegion : Obligations.Rd8ReturnsTheByteOfItsRegion := by
  intro s a d
  rw [exec_rd8]
  have hregion := regionOf_eq_ite a
  split at hregion
  · next h0 => rw [s.hostRead_of_regs hregion, if_pos h0]
  · next h0 =>
    split at hregion
    · next h1 => rw [s.hostRead_of_txbuf hregion, if_neg h0, if_pos h1]
    · next h1 =>
      split at hregion
      · next h2 => rw [s.hostRead_of_fbuf hregion, if_neg h0, if_neg h1, if_pos h2]
      · next h2 => rw [s.hostRead_of_rxpay hregion, if_neg h0, if_neg h1, if_neg h2]

/-- Settles O12: STATUS by its flags, the codes by their values, the wider registers by their bytes. -/
theorem registerMapReads : Obligations.RegisterMapReads := by
  intro s
  refine ⟨rfl, s.toNat_status, ?result, ?phase, rfl, toNat_bytes16 s.txSize, rfl, toNat_bytes16 s.rxSize,
    toNat_bytes32 s.flen, toNat_bytes32 s.txCount, rfl, ?tdir, toNat_bytes16 s.rxLenField, s.hostRead_cap, rfl, rfl,
    fun o ho => s.regRead_of_reserved ho⟩
  case result => rw [show s.regRead 0x02 = s.result.code.setWidth 8 from rfl]; cases s.result <;> rfl
  case phase => rw [show s.regRead 0x03 = s.phase.code.setWidth 8 from rfl]; cases s.phase <;> rfl
  case tdir => rw [show s.regRead 0x15 = bit s.tdir from rfl]; cases s.tdir <;> rfl

/-- Settles O13: an idle write to region 1 is a store in TXBUF. -/
theorem wr8StoresInTxbuf : Obligations.Wr8StoresInTxbuf := by
  intro s a v hb hwf ha
  rw [exec_wr8, State.hostWrite_of_txbuf v hb (regionOf_eq_txbuf ha)]
  refine ⟨fun hin => ⟨_, rfl, Memory.read_store_same v hwf hin, fun _ hne => Memory.read_store_other hne⟩,
    fun hout => ?_⟩
  rw [Memory.store_of_outside s.txbuf v hout]

/-- Settles O14: an idle write to region 2 is a store in FBUF that clears VALID. -/
theorem wr8StoresInFbufAndClosesTheAperture : Obligations.Wr8StoresInFbufAndClosesTheAperture := by
  intro s a v hb hwf ha
  rw [exec_wr8, State.hostWrite_of_fbuf v hb (regionOf_eq_fbuf ha)]
  refine ⟨fun hin => ⟨_, rfl, Memory.read_store_same v hwf hin, fun _ hne => Memory.read_store_other hne⟩,
    fun hout => ?_⟩
  rw [Memory.store_of_outside s.fbuf v hout]

/-- Settles O15: an idle write to region 0 is RegWrite of its offset, which replaces one byte of the register there. -/
theorem wr8WritesTheRegisters : Obligations.Wr8WritesTheRegisters := by
  intro s v hb
  have hwrite {o : Nat} (hlt : o < 65536) (h0 : o ≠ 0) :
      exec (.wr8 (BitVec.ofNat 18 o) v) s = .next (s.regWrite o v) := exec_wr8_register v hb hlt h0
  refine ⟨hwrite (by decide) (by decide), ⟨_, hwrite (by decide) (by decide), toNat_setByte16_zero s.txSize v⟩,
    ⟨_, hwrite (by decide) (by decide), toNat_setByte16_one s.txSize v⟩, hwrite (by decide) (by decide),
    ⟨_, hwrite (by decide) (by decide), toNat_setByte16_zero s.rxSize v⟩,
    ⟨_, hwrite (by decide) (by decide), toNat_setByte16_one s.rxSize v⟩,
    fun k hk => ?flen, fun a hlt hother => ?other⟩
  case flen =>
    refine ⟨setByte32 s.flen k v, ?_, ?_, fun j hj hne => ?_⟩
    · rw [hwrite (by omega) (by omega), s.regWrite_flen v hk]
    · rw [← toNat_byteOf_eq_digit, byteOf_setByte32_same s.flen v hk]
    · rw [← toNat_byteOf_eq_digit, ← toNat_byteOf_eq_digit, byteOf_setByte32 s.flen v hk hj, if_neg hne]
  case other =>
    obtain ⟨h0, hnot⟩ := not_or.1 (List.mem_cons.not.1 hother)
    have hreg := hwrite hlt h0
    rwa [BitVec.ofNat_toNat, BitVec.setWidth_eq, s.regWrite_of_not_mem v hnot] at hreg

/-- Settles O19: the three rows are the idle issue of their operation, decided by the descriptors it uses. -/
theorem issueStartsTheOperationOrReportsDescError : Obligations.IssueStartsTheOperationOrReportsDescError := by
  intro s hb
  obtain ⟨hencode, hencodeErr⟩ := exec_issue_row (fits := Spec.txFits s) .issueEncode rfl hb
    (by simp [State.descTooLarge_eq_false_iff, Op.needsTx, Op.needsRx, Spec.txFits])
  obtain ⟨hdecode, hdecodeErr⟩ := exec_issue_row (fits := Spec.rxFits s) .issueDecode rfl hb
    (by simp [State.descTooLarge_eq_false_iff, Op.needsTx, Op.needsRx, Spec.rxFits])
  obtain ⟨htransact, htransactErr⟩ := exec_issue_row (fits := Spec.txFits s ∧ Spec.rxFits s) .issueTransact rfl hb
    (by simp [State.descTooLarge_eq_false_iff, Op.needsTx, Op.needsRx, Spec.txFits, Spec.rxFits])
  exact ⟨hencode, hencodeErr, hdecode, hdecodeErr, htransact, htransactErr,
    (exec_eq_wr8_of_cmdRow .issueEncode s).symm, (exec_eq_wr8_of_cmdRow .issueDecode s).symm,
    (exec_eq_wr8_of_cmdRow .issueTransact s).symm⟩

/-- Settles O20: a reserved byte selects no operation, and CMD rejects it. -/
theorem reservedCommandsAreRejected : Obligations.ReservedCommandsAreRejected := by
  intro s _
  have hrow {v : Byte} {i : Instr} (row : CmdRow v i) (hop : opOf v = none) : exec i s = .next { s with rej := true } :=
    exec_row_of_reject row (s.cmdWrite_of_opOf_eq_none hop)
  have hhigh {v : Byte} {i : Instr} (row : CmdRow v i) (hv : 3 < v.toNat) : exec i s = .next { s with rej := true } :=
    hrow row (opOf_of_three_lt hv)
  refine ⟨hrow .reserved00 rfl,
    fun low => hhigh (.reserved04 low) (three_lt_toNat_append low (by decide) (by decide)),
    fun low => hhigh (.reserved08 low) (three_lt_toNat_append low (by decide) (by decide)),
    fun low => hhigh (.reserved10 low) (three_lt_toNat_append low (by decide) (by decide)),
    fun low => hhigh (.reserved20 low) (three_lt_toNat_append low (by decide) (by decide)),
    fun low => hhigh (.reserved40 low) (three_lt_toNat_append low (by decide) (by decide)),
    fun low => hhigh (.reserved80 low) (three_lt_toNat_append low (by decide) (by decide)), fun v h1 h2 h3 => ?_⟩
  have hop : opOf v = none := by simp only [opOf, h1, h2, h3, if_false]
  rw [exec_wr8_cmd, s.cmdWrite_of_opOf_eq_none hop, State.reject]

/-- Settles O21: with BUSY = 1 CMD rejects every byte. -/
theorem commandsWhileBusyAreRejected : Obligations.CommandsWhileBusyAreRejected := by
  intro s hb
  have hrow {v : Byte} {i : Instr} (row : CmdRow v i) : exec i s = .next { s with rej := true } :=
    exec_row_of_reject row (State.cmdWrite_of_busy v hb)
  refine ⟨hrow .issueEncode, hrow .issueDecode, hrow .issueTransact, hrow .reserved00,
    fun low => hrow (.reserved04 low), fun low => hrow (.reserved08 low), fun low => hrow (.reserved10 low),
    fun low => hrow (.reserved20 low), fun low => hrow (.reserved40 low), fun low => hrow (.reserved80 low), fun v => ?_⟩
  rw [exec_wr8_cmd, State.cmdWrite_of_busy v hb, State.reject]

/-- Settles O55: a read ignores DATA, a one-byte word is a CMD row, and every other host word is one write. -/
theorem everyHostWordIsOneAccess : Obligations.EveryHostWordIsOneAccess := by
  intro s
  refine ⟨fun _ _ => rfl, fun i v hwf henc => exec_eq_wr8_of_cmdRow (cmdRow_of_encode hwf henc) s, fun i hi => ?_⟩
  by_cases hrd : ∃ a d, i = .rd8 a d
  · exact .inl hrd
  · exact .inr (isOneWrite_of_hostWord s hi fun a d e => hrd ⟨a, d, e⟩)

end Sys2Proof.Machine

/-! ## The frame codec (spec/41_frame_codec.md): the bytes of a frame in FBUF, EncStep, the decode check and DecStep as
equations, a command with the CORE's turn as two steps of a run, and the statements O23 to O29, O48 and O52. -/

namespace Sys2Proof.Machine

/-! ### The request frame in the spec's words (R120) -/

theorem byteOf_zero_eq_ofNat {w : Nat} (v : BitVec w) : byteOf v 0 = BitVec.ofNat 8 v.toNat := by
  apply BitVec.eq_of_toNat_eq
  simp [toNat_byteOf]

theorem byteOf_one_eq_ofNat {w : Nat} (v : BitVec w) : byteOf v 1 = BitVec.ofNat 8 (v.toNat / 256) := by
  apply BitVec.eq_of_toNat_eq
  simp [toNat_byteOf]

theorem frame_eq_frameOf (label : Byte) (size : U16) (p : List Byte) :
    frame label size p = Spec.frameOf label size p := by
  rw [frame, byteOf_zero_eq_ofNat, byteOf_one_eq_ofNat]
  rfl

theorem State.requestFrame_eq_request (s : State) : s.requestFrame = Spec.request s := by
  have hpayload : s.txbuf.readList 0 s.txSize.toNat = Spec.txPayload s := by
    apply List.ext_getElem
    · simp [Spec.txPayload]
    · intro i hi _
      simp [Memory.getElem_readList, Spec.txPayload]
  rw [State.requestFrame, frame_eq_frameOf, hpayload]
  rfl

@[simp] theorem length_txPayload (s : State) : (Spec.txPayload s).length = s.txSize.toNat := by
  simp [Spec.txPayload]

theorem getElem_txPayload (s : State) {i : Nat} (hi : i < (Spec.txPayload s).length) :
    (Spec.txPayload s)[i] = s.txbuf.read i := by
  simp [Spec.txPayload]

@[simp] theorem length_request (s : State) : (Spec.request s).length = s.txSize.toNat + 5 := by
  rw [← s.requestFrame_eq_request, s.length_requestFrame]

/-! ### A frame in FBUF -/

/-- Bytes that fit the storage, stored from index 0 on. -/
theorem holds_storeList {cap : Nat} {m : Memory} {bs : List Byte} (hm : m.wf = true) (hlen : bs.length ≤ cap) :
    Spec.Holds (Memory.storeList cap m 0 bs) m bs := by
  refine ⟨fun i hi => ?_, fun i hi => Memory.read_storeList_outside bs (.inr (by omega))⟩
  have hread := Memory.read_storeList_inside (cap := cap) (a := 0) bs hi hm (by omega)
  rwa [Nat.zero_add] at hread

/-- `m` holds from index 0 on a frame with the label, the two length bytes and the payload given (R80). -/
structure HoldsFrame (m : Memory) (label lenLow lenHigh : Byte) (p : List Byte) : Prop where
  start : m.read 0 = 0x7E
  label : m.read 1 = label
  lenLow : m.read 2 = lenLow
  lenHigh : m.read 3 = lenHigh
  payload : ∀ (i : Nat) (h : i < p.length), m.read (4 + i) = p[i]
  ending : m.read (p.length + 4) = 0xE7

theorem holdsFrame_of_holds {m old : Memory} {label lenLow lenHigh : Byte} {p : List Byte}
    (h : Spec.Holds m old ([0x7E, label, lenLow, lenHigh] ++ p ++ [0xE7])) : HoldsFrame m label lenLow lenHigh p := by
  obtain ⟨hbytes, -⟩ := h
  exact {
    start := hbytes 0 (by simp)
    label := hbytes 1 (by simp)
    lenLow := hbytes 2 (by simp)
    lenHigh := hbytes 3 (by simp)
    payload := fun i hi => by
      rw [hbytes (4 + i) (by simp; omega), List.getElem_append_left (by simp; omega),
        List.getElem_append_right (by simp)]
      simp
    ending := by
      rw [hbytes (p.length + 4) (by simp), List.getElem_append_right (by simp)]
      simp }

/-- A held request frame, with the payload read where TXBUF has it. -/
theorem holdsFrame_of_holds_request {s : State} {m old : Memory} (h : Spec.Holds m old (Spec.request s)) :
    HoldsFrame m s.txLabel (byteOf s.txSize 0) (byteOf s.txSize 1) (Spec.txPayload s) := by
  rw [byteOf_zero_eq_ofNat, byteOf_one_eq_ofNat]
  exact holdsFrame_of_holds h

/-! ### EncStep (R121) -/

namespace State

/-- The request frame enters FBUF, and FLEN is its length. -/
theorem loadFrame_request {s : State} (hfits : Spec.txFits s) (hwf : s.fbuf.wf = true) :
    ∃ f, s.loadFrame s.requestFrame = { s with fbuf := f, flen := BitVec.ofNat 32 (s.txSize.toNat + 5) } ∧
      Spec.Holds f s.fbuf (Spec.request s) := by
  have hlen : (Spec.request s).length ≤ s.cfg.maxFrame := by
    rw [length_request]
    exact Nat.add_le_add_right hfits 5
  refine ⟨_, ?_, holds_storeList hwf hlen⟩
  rw [loadFrame, s.requestFrame_eq_request, length_request]

theorem encStep_of_encode {s : State} (hop : s.opr = some .encode) (hfits : Spec.txFits s) (hwf : s.fbuf.wf = true) :
    ∃ f, s.encStep = { Spec.ended s .ok with fbuf := f, flen := BitVec.ofNat 32 (s.txSize.toNat + 5) } ∧
      Spec.Holds f s.fbuf (Spec.request s) := by
  obtain ⟨f, hload, hholds⟩ := loadFrame_request hfits hwf
  exact ⟨f, by rw [encStep_encode hop, hload]; rfl, hholds⟩

theorem encStep_of_transact {s : State} (hop : s.opr = some .transact) (hfits : Spec.txFits s)
    (hwf : s.fbuf.wf = true) :
    ∃ f, s.encStep = { s with
        fbuf := f, flen := BitVec.ofNat 32 (s.txSize.toNat + 5), pend := .tx, phase := .txw
        portSent := s.portSent ++ [.txReq (Spec.request s)] } ∧
      Spec.Holds f s.fbuf (Spec.request s) := by
  obtain ⟨f, hload, hholds⟩ := loadFrame_request hfits hwf
  exact ⟨f, by rw [encStep_transact (by simp [hop]), hload, s.requestFrame_eq_request]; rfl, hholds⟩

end State

/-! ### TxReq, the step that sends a write request (R160, R163) -/

theorem exec_txReq (g : List Byte) (s : State) :
    exec (.txReq g) s =
      .next (if s.phase = .enc ∧ s.opr = some .transact ∧ g = s.requestFrame then s.encStep else s) := rfl

theorem exec_txReq_unsent {g : List Byte} {s : State}
    (h : ¬(s.phase = .enc ∧ s.opr = some .transact ∧ g = s.requestFrame)) : exec (.txReq g) s = .next s := by
  rw [exec_txReq, if_neg h]

/-! ### The decode check (R122, R128) -/

theorem check_of_length_ne {m : Memory} {n : Nat} {l : Byte} {z : Nat} (h : n ≠ z + 5) :
    check m n l z = .lengthError := if_pos h

theorem check_of_markers_ne {m : Memory} {n : Nat} {l : Byte} {z : Nat} (hlen : n = z + 5)
    (h : m.read 0 ≠ 0x7E ∨ m.read (n - 1) ≠ 0xE7) : check m n l z = .frameError :=
  (if_neg (not_not.2 hlen)).trans (if_pos h)

theorem check_of_label_ne {m : Memory} {n : Nat} {l : Byte} {z : Nat} (hlen : n = z + 5)
    (hmarkers : ¬(m.read 0 ≠ 0x7E ∨ m.read (n - 1) ≠ 0xE7)) (h : m.read 1 ≠ l) : check m n l z = .labelError :=
  (if_neg (not_not.2 hlen)).trans ((if_neg hmarkers).trans (if_pos h))

/-- A check reads bytes 0, 1 and FLEN - 1, and those only when FLEN = SIZE + 5 (R124). -/
theorem check_congr {m m' : Memory} {n : Nat} {l : Byte} {z : Nat}
    (h : n = z + 5 → m.read 0 = m'.read 0 ∧ m.read 1 = m'.read 1 ∧ m.read (z + 4) = m'.read (z + 4)) :
    check m n l z = check m' n l z := by
  by_cases hlen : n = z + 5
  · obtain ⟨hstart, hlabel, hend⟩ := h hlen
    have hlast : n - 1 = z + 4 := by omega
    simp only [check, hlast, hstart, hlabel, hend]
  · rw [check_of_length_ne hlen, check_of_length_ne hlen]

/-! ### DecStep (R123) -/

namespace State

theorem decStep_of_error {s : State} {r : Result} (h : s.checkResult = r) (hr : r ≠ .ok) :
    s.decStep = Spec.ended s r := by
  subst h
  exact if_neg hr

theorem decStep_of_ok {s : State} (h : s.checkResult = .ok) :
    s.decStep = { Spec.ended s .ok with
      valid := true
      rxLenField := le16 (s.fbuf.read 2) (s.fbuf.read 3)
      lenw := le16 (s.fbuf.read 2) (s.fbuf.read 3) != s.rxSize } := if_pos h

/-- A frame of the RX descriptor in FBUF, with FLEN its length, passes every check whatever its length field (R125). -/
theorem decStep_of_holdsFrame {s : State} {lenLow lenHigh : Byte} {p : List Byte}
    (h : HoldsFrame s.fbuf s.rxLabel lenLow lenHigh p) (hsize : p.length = s.rxSize.toNat)
    (hflen : s.flen.toNat = s.rxSize.toNat + 5) :
    s.decStep = { Spec.ended s .ok with
      valid := true, rxLenField := le16 lenLow lenHigh, lenw := le16 lenLow lenHigh != s.rxSize } := by
  have hlast : s.flen.toNat - 1 = p.length + 4 := by omega
  have hok : s.checkResult = .ok := (check_eq_ok_iff _ _ _ _).2 ⟨hflen, h.start, hlast ▸ h.ending, h.label⟩
  rw [decStep_of_ok hok, h.lenLow, h.lenHigh]

/-- Below RX_SIZE the open aperture shows FBUF from index 4 on (R108). -/
theorem apRead_of_valid {s : State} {i : Nat} (hvalid : s.valid = true) (hi : i < s.rxSize.toNat) :
    s.apRead i = s.fbuf.read (4 + i) := if_pos ⟨hvalid, hi⟩

end State

theorem le16_bne_eq_decide (lo hi : Byte) (z : U16) :
    (le16 lo hi != z) = decide (lo.toNat + 256 * hi.toNat ≠ z.toNat) := by
  simp [bne, beq_eq_decide, ← BitVec.toNat_inj, toNat_le16]

/-! ### VALID rises at DecStep only (R126) -/

theorem State.encStep_valid (s : State) : s.encStep.valid = s.valid := by
  unfold State.encStep; split <;> rfl

theorem State.writeCount_valid (s : State) (c : U32) : (s.writeCount c).valid = s.valid := by
  unfold State.writeCount; split <;> rfl

theorem State.issue_valid (s : State) (op : Op) : (s.issue op).valid = false := by
  rcases s.issue_cases op with ⟨-, e⟩ | ⟨-, e⟩ <;> rw [e] <;> rfl

theorem State.valid_of_idleWrite_valid {s : State} {r : Region} {o : Nat} {v : Byte}
    (h : (s.idleWrite r o v).valid = true) : s.valid = true := by
  rcases s.idleWrite_cases r o v with e | ⟨_, _, e⟩ | ⟨_, _, _, e⟩ | e | e <;> rw [e] at h
  · exact h
  · exact h
  · cases h
  · exact h
  · cases h

/-- No instruction raises VALID. -/
theorem State.Effect.valid_of_valid {i : Instr} {s t : State} (h : s.Effect i t) (ht : t.valid = true) :
    s.valid = true := by
  cases h with
  | ignored ts => exact ht
  | read a => exact ht
  | rejected => exact ht
  | issued op hi hb => simp [s.issue_valid op] at ht
  | wrote r o v ts hb => exact State.valid_of_idleWrite_valid ht
  | encoded hp => exact s.encStep_valid ▸ ht
  | counted c hw => exact s.writeCount_valid c ▸ ht
  | failed e dir hw => exact ht
  | replied b hr hl => exact ht

/-- DecStep raises VALID on OK only. -/
theorem State.checkResult_of_decStep_valid {s : State} (hs : s.valid = false) (ht : s.decStep.valid = true) :
    s.checkResult = .ok := by
  by_contra herr
  rw [State.decStep_of_error rfl herr] at ht
  exact absurd ht (by simp [Spec.ended, hs])

/-! ### A command and the CORE's turn, as two steps of a run -/

theorem run_add {j k : Nat} : ∀ {s u : State}, run j s = .next u → run (j + k) s = run k u := by
  induction j with
  | zero =>
    intro s u h
    rw [Nat.zero_add, show s = u from Host.Outcome.next.inj h]
  | succ j ih =>
    intro s u h
    rw [Nat.succ_add, run]
    rw [run] at h
    cases hstep : step s with
    | next v => exact ih (by simpa [hstep] using h)
    | fault r => simp [hstep] at h
    | refused r => simp [hstep] at h

theorem run_one_of_step {s t : State} (h : step s = .next t) : run 1 s = .next t := by
  simp [run, h]

/-- A CMD byte and a CORE turn: the command does not look at the turns behind it. -/
theorem run_cmd_core {s t : State} {v : Byte} {i : Instr} {rest : List Turn} (row : CmdRow v i)
    (hsched : s.schedule = .word [v] :: .core :: rest)
    (hexec : exec i { s with schedule := rest } = .next t) : run 2 s = .next t.coreTurn := by
  have hwrite (l : List Turn) : exec i { s with schedule := l } = .next { s.cmdWrite v with schedule := l } := by
    rw [row.exec_eq, ← State.hostWrite_cmd, State.hostWrite_withSchedule, State.hostWrite_cmd]
  have hcmd : step s = .next { s.cmdWrite v with schedule := .core :: rest } := by
    rw [step_of_word (State.nextTurn_of_schedule_cons hsched) row.decode_eq,
      State.popTurn_of_schedule_cons hsched, hwrite]
  obtain rfl : { s.cmdWrite v with schedule := rest } = t := Host.Outcome.next.inj ((hwrite rest).symm.trans hexec)
  exact (run_add (k := 1) (run_one_of_step hcmd)).trans (run_one_of_step (step_of_core rfl))

/-- ENCODE and the CORE's turn on an idle state whose TX descriptor fits. -/
theorem run_encode {s : State} {rest : List Turn} (hb : s.busy = false) (hfits : Spec.txFits s) (hwf : s.fbuf.wf = true)
    (hsched : s.schedule = .word [0x01] :: .core :: rest) :
    ∃ f, run 2 s = .next { Spec.completed s .ok with
        fbuf := f, flen := BitVec.ofNat 32 (s.txSize.toNat + 5), schedule := rest } ∧
      Spec.Holds f s.fbuf (Spec.request s) := by
  obtain ⟨hissue, -⟩ := issueStartsTheOperationOrReportsDescError { s with schedule := rest } hb
  obtain ⟨f, henc, hholds⟩ :=
    State.encStep_of_encode (s := Spec.issued { s with schedule := rest } .encode .enc) rfl hfits hwf
  exact ⟨f, (run_cmd_core .issueEncode hsched (hissue hfits)).trans (congrArg Host.Outcome.next henc), hholds⟩

/-- DECODE and the CORE's turn on an idle state whose FBUF holds a frame of its RX descriptor. -/
theorem run_decode_of_holdsFrame {s : State} {rest : List Turn} {lenLow lenHigh : Byte} {p : List Byte}
    (hb : s.busy = false) (hfits : Spec.rxFits s) (hframe : HoldsFrame s.fbuf s.rxLabel lenLow lenHigh p)
    (hsize : p.length = s.rxSize.toNat) (hflen : s.flen.toNat = s.rxSize.toNat + 5)
    (hsched : s.schedule = .word [0x02] :: .core :: rest) :
    run 2 s = .next { Spec.completed s .ok with
      valid := true, rxLenField := le16 lenLow lenHigh, lenw := le16 lenLow lenHigh != s.rxSize, schedule := rest } := by
  obtain ⟨-, -, hissue, -⟩ := issueStartsTheOperationOrReportsDescError { s with schedule := rest } hb
  have hdec := State.decStep_of_holdsFrame (s := Spec.issued { s with schedule := rest } .decode .dec) hframe hsize hflen
  exact (run_cmd_core .issueDecode hsched (hissue hfits)).trans (congrArg Host.Outcome.next hdec)

/-! ### The obligations -/

/-- Settles O23: the accepted issue enters ENC, and EncStep of an ENCODE stores the frame and completes. -/
theorem encodeFramesTxbuf : Obligations.EncodeFramesTxbuf := by
  intro s hb hfits hwf
  obtain ⟨hissue, -⟩ := issueStartsTheOperationOrReportsDescError s hb
  obtain ⟨f, henc, hholds⟩ := State.encStep_of_encode (s := Spec.issued s .encode .enc) rfl hfits hwf
  exact ⟨_, f, hissue hfits, henc, hholds⟩

/-- Settles O24: the accepted issue enters DEC, and DecStep completes with what the check answers. -/
theorem decodeReportsTheFirstFailingCheck : Obligations.DecodeReportsTheFirstFailingCheck := by
  intro s hb hfits
  obtain ⟨-, -, hissue, -⟩ := issueStartsTheOperationOrReportsDescError s hb
  refine ⟨_, hissue hfits, ?_⟩
  change (Spec.issued s .decode .dec).decStep = _
  split_ifs with hlen hmarkers hlabel
  · exact State.decStep_of_error (check_of_length_ne hlen) nofun
  · exact State.decStep_of_error (check_of_markers_ne (not_not.1 hlen) hmarkers) nofun
  · exact State.decStep_of_error (check_of_label_ne (not_not.1 hlen) hmarkers hlabel) nofun
  · obtain ⟨hstart, hend⟩ := not_or.1 hmarkers
    have hok : (Spec.issued s .decode .dec).checkResult = .ok :=
      (check_eq_ok_iff _ _ _ _).2 ⟨not_not.1 hlen, not_not.1 hstart, not_not.1 hend, not_not.1 hlabel⟩
    rw [State.decStep_of_ok hok, le16_bne_eq_decide]
    rfl

/-- Settles O25: the check reads bytes 0, 1 and SIZE + 4 at most, which lie below MAX_FRAME, and none when the length is
wrong. -/
theorem checkReadsOnlyFbuf : Obligations.CheckReadsOnlyFbuf := by
  intro s m hfits
  have hsize : s.rxSize.toNat ≤ s.cfg.maxPayload := hfits
  refine ⟨fun hagree => check_congr fun _ => ?_, check_of_length_ne⟩
  exact ⟨hagree 0 (by omega), hagree 1 (by omega), hagree (s.rxSize.toNat + 4) (by omega)⟩

/-- Settles O26: bytes 2 and 3 are none of 0, 1 and SIZE + 4. -/
theorem checkIgnoresTheLengthField : Obligations.CheckIgnoresTheLengthField := by
  intro s m hagree
  exact check_congr fun _ =>
    ⟨hagree _ (by omega) (by omega), hagree _ (by omega) (by omega), hagree _ (by omega) (by omega)⟩

/-- Settles O27: ENCODE leaves in FBUF a frame of the descriptor DECODE checks against, with the payload from TXBUF. -/
theorem encodeThenDecodeRoundTrips : Obligations.EncodeThenDecodeRoundTrips := by
  intro s rest hb hfits hwf hlabel hsize hsched
  obtain ⟨f, henc, hholds⟩ := run_encode hb hfits hwf hsched
  have hframe := holdsFrame_of_holds_request hholds
  have hlen : (Spec.txPayload s).length = s.rxSize.toNat := by rw [length_txPayload, hsize]
  have hflen : (BitVec.ofNat 32 (s.txSize.toNat + 5)).toNat = s.rxSize.toNat + 5 := by
    have hlt := s.txSize.isLt
    rw [hsize, BitVec.toNat_ofNat]
    omega
  have hrxFits : Spec.rxFits s := by rwa [Spec.rxFits, hsize]
  have hdec := run_decode_of_holdsFrame
    (s := { Spec.completed s .ok with
      fbuf := f, flen := BitVec.ofNat 32 (s.txSize.toNat + 5), schedule := .word [0x02] :: .core :: rest })
    rfl hrxFits (hlabel ▸ hframe) hlen hflen rfl
  rw [le16_byteOf] at hdec
  refine ⟨⟨_, henc, rfl, rfl, rfl⟩, _, (run_add henc).trans hdec, rfl, rfl, rfl, rfl, rfl,
    bne_eq_false_iff_eq.2 hsize.symm, rfl, fun i hi => ?_⟩
  have hrx : i < s.rxSize.toNat := by rwa [hsize]
  have hp : i < (Spec.txPayload s).length := by rwa [length_txPayload]
  rw [State.apRead_of_valid]
  · exact (hframe.payload i hp).trans (getElem_txPayload s hp)
  · rfl
  · exact hrx

/-- Settles O28: the accepted issue enters ENC, and EncStep of a TRANSACT stores the frame and sends it. -/
theorem transactSendsTheRequestFrame : Obligations.TransactSendsTheRequestFrame := by
  intro s hb htx hrx hwf
  obtain ⟨-, -, -, -, hissue, -⟩ := issueStartsTheOperationOrReportsDescError s hb
  obtain ⟨f, henc, hholds⟩ := State.encStep_of_transact (s := Spec.issued s .transact .enc) rfl htx hwf
  exact ⟨_, f, hissue ⟨htx, hrx⟩, henc, hholds⟩

/-- Settles O29: the row is EncStep under its three conditions and nothing otherwise. -/
theorem txReqIsSentByTheEncodingOfATransact : Obligations.TxReqIsSentByTheEncodingOfATransact := by
  intro s
  refine ⟨fun hphase hop hfits hwf => ?_, fun g hg => ?_, fun g hother => ?_⟩
  · obtain ⟨f, henc, hholds⟩ := State.encStep_of_transact hop hfits hwf
    refine ⟨f, ?_, hholds⟩
    rw [exec_txReq, if_pos ⟨hphase, hop, s.requestFrame_eq_request.symm⟩, henc]
  · exact exec_txReq_unsent fun ⟨_, _, hframe⟩ => hg (hframe.trans s.requestFrame_eq_request)
  · exact exec_txReq_unsent fun ⟨hphase, hop, _⟩ => hother.elim (absurd hphase) (absurd hop)

/-- Settles O48: the validated part of the invariant, which every reachable state meets. -/
theorem validMeansAValidatedFrame : Obligations.ValidMeansAValidatedFrame := by
  intro c d turns k t hr hvalid
  obtain ⟨hbusy, hok, hlen, -, hstart, hend, hlabel, -⟩ := (State.Inv.of_run_resetWith hr).validated hvalid
  exact ⟨hbusy, hok, hlen, hstart, hend, hlabel⟩

/-- Settles O52: neither an instruction nor EncStep nor RESET raises VALID, and DecStep does on OK only. -/
theorem onlyDecStepOpensTheAperture : Obligations.OnlyDecStepOpensTheAperture := by
  intro s t hs hstep ht
  rcases step_next_cases hstep with ⟨_, i, _, _, he⟩ | ⟨hturn, rfl⟩ | ⟨d, _, rfl⟩
  case inl => exact absurd ((exec_effect he).valid_of_valid ht) (by simp [hs])
  case inr.inr => cases ht
  case inr.inl =>
    rcases s.popTurn.coreTurn_cases with ⟨_, e⟩ | ⟨hphase, e⟩ | e <;> rw [e] at ht ⊢
    · rw [State.encStep_valid] at ht
      exact absurd ht (by simp [hs])
    · have hok := State.checkResult_of_decStep_valid (s := s.popTurn) hs ht
      exact ⟨hturn, hphase, hok, by rw [State.decStep_of_ok hok]; rfl⟩
    · exact absurd ht (by simp [hs])

end Sys2Proof.Machine

/-! ## The command catalog (spec/42_command_catalog.md): the WR8 program of a frame row as one update of its descriptor and
buffer, a row's word as a run, and the statements O5, O39, O40 and O42. -/

namespace Sys2Proof.Machine

/-! ### Bytes written one by one (R64) -/

theorem setByte16_setByte16_byteOf (v z : U16) : setByte16 (setByte16 v 0 (byteOf z 0)) 1 (byteOf z 1) = z := by
  simp [setByte16, le16_byteOf]

theorem setByte32_setByte32_byteOf (v n : U32) :
    setByte32 (setByte32 (setByte32 (setByte32 v 0 (byteOf n 0)) 1 (byteOf n 1)) 2 (byteOf n 2)) 3 (byteOf n 3) = n := by
  simp [setByte32, le32_byteOf]

/-! ### Programs of host writes (R91, R100) -/

/-- The number of the host address at offset `o` of region `k` (R62). -/
theorem toNat_ofNat_of_region {k o : Nat} (hk : k < 4) (ho : o < 65536) :
    (BitVec.ofNat 18 (k * 65536 + o)).toNat = k * 65536 + o := by
  rw [BitVec.toNat_ofNat, Nat.mod_eq_of_lt (by omega)]

namespace State

theorem hostWrites_append (ws vs : List (HostAddr × Byte)) :
    ∀ s : State, s.hostWrites (ws ++ vs) = (s.hostWrites ws).hostWrites vs := by
  induction ws with
  | nil => exact fun _ => rfl
  | cons w ws ih => exact fun s => ih (s.hostWrite w.1 w.2)

/-- A program's own step is its first write, and the other writes stand before the schedule (R100). -/
theorem hostProgram_cons (s : State) (w : HostAddr × Byte) (ws : List (HostAddr × Byte)) :
    s.hostProgram (w :: ws) = { s.hostWrite w.1 w.2 with schedule := Spec.writes ws ++ s.schedule } := by
  rw [hostProgram, pushTurns, hostWrite_schedule]
  rfl

/-- Consecutive writes are consecutive stores. `put m` is the state with `m` in the buffer whose region starts at the host
address `base`. -/
theorem hostWrites_bufWrites {cap base : Nat} {put : Memory → State}
    (hput : ∀ (m : Memory) (o : Nat) (v : Byte), o < 65536 →
      (put m).hostWrite (BitVec.ofNat 18 (base + o)) v = put (m.store cap o v)) (bs : List Byte) :
    ∀ (m : Memory) (o : Nat), o + bs.length ≤ 65536 →
      (put m).hostWrites (bufWrites (BitVec.ofNat 18 (base + o)) bs) = put (m.storeList cap o bs) := by
  induction bs with
  | nil => exact fun _ _ _ => rfl
  | cons b bs ih =>
    intro m o hlen
    rw [List.length_cons] at hlen
    have hnext : BitVec.ofNat 18 (base + o) + 1 = BitVec.ofNat 18 (base + (o + 1)) :=
      (BitVec.ofNat_add (base + o) 1).symm
    rw [bufWrites, hnext, hostWrites, hput m o b (by omega), ih _ _ (by omega), Memory.storeList]

variable {s : State}

theorem hostWrites_txbuf (hb : s.busy = false) {p : List Byte} (hlen : p.length ≤ 65536) :
    s.hostWrites (bufWrites addrTxbuf p) = { s with txbuf := Memory.storeList s.cfg.maxPayload s.txbuf 0 p } := by
  refine hostWrites_bufWrites (base := 1 * 65536) (put := fun m => { s with txbuf := m }) (fun m o v ho => ?_) p s.txbuf 0
    (by omega)
  have haddr := toNat_ofNat_of_region (k := 1) (by decide) ho
  refine (hostWrite_of_txbuf (s := { s with txbuf := m }) v hb (regionOf_eq_txbuf (by omega))).trans ?_
  rw [haddr, Nat.mul_add_mod_self_right, Nat.mod_eq_of_lt ho]

/-- With VALID already 0 an FBUF write changes FBUF only. -/
theorem hostWrites_fbuf (hb : s.busy = false) (hvalid : s.valid = false) {f : List Byte} (hlen : f.length ≤ 65536) :
    s.hostWrites (bufWrites addrFbuf f) = { s with fbuf := Memory.storeList s.cfg.maxFrame s.fbuf 0 f } := by
  refine hostWrites_bufWrites (base := 2 * 65536) (put := fun m => { s with fbuf := m }) (fun m o v ho => ?_) f s.fbuf 0
    (by omega)
  have haddr := toNat_ofNat_of_region (k := 2) (by decide) ho
  refine (hostWrite_of_fbuf (s := { s with fbuf := m }) v hb (regionOf_eq_fbuf (by omega))).trans ?_
  rw [haddr, Nat.mul_add_mod_self_right, Nat.mod_eq_of_lt ho, ← hvalid]
  rfl

theorem regWrite_busy (s : State) (o : Nat) (v : Byte) : (s.regWrite o v).busy = s.busy := by
  rcases s.regWrite_cases o v with e | ⟨_, _, e⟩ | ⟨_, _, _, e⟩ <;> rw [e]

/-- RegWrite of consecutive bytes from an offset on (R107). -/
def regWrites (s : State) : Nat → List Byte → State
  | _, [] => s
  | o, v :: vs => (s.regWrite o v).regWrites (o + 1) vs

/-- Consecutive idle writes from a register's address on are register writes. -/
theorem hostWrites_registers (bs : List Byte) : ∀ {s : State} {o : Nat}, s.busy = false → o ≠ 0 →
    o + bs.length ≤ 65536 → s.hostWrites (bufWrites (BitVec.ofNat 18 o) bs) = s.regWrites o bs := by
  induction bs with
  | nil => exact fun _ _ _ => rfl
  | cons v vs ih =>
    intro s o hb h0 hlen
    rw [List.length_cons] at hlen
    have hnext : BitVec.ofNat 18 o + 1 = BitVec.ofNat 18 (o + 1) := (BitVec.ofNat_add o 1).symm
    rw [bufWrites, hnext, hostWrites, hostWrite_register v hb (by omega) h0,
      ih ((s.regWrite_busy o v).trans hb) (by omega) (by omega), regWrites]

theorem hostWrites_txSize (hb : s.busy = false) (z : U16) :
    s.hostWrites (bufWrites addrTxSize [byteOf z 0, byteOf z 1]) = { s with txSize := z } := by
  calc s.hostWrites (bufWrites addrTxSize [byteOf z 0, byteOf z 1])
    _ = s.regWrites 0x06 [byteOf z 0, byteOf z 1] := hostWrites_registers _ hb (by decide) (by simp)
    _ = { s with txSize := setByte16 (setByte16 s.txSize 0 (byteOf z 0)) 1 (byteOf z 1) } := rfl
    _ = { s with txSize := z } := by rw [setByte16_setByte16_byteOf]

theorem hostWrites_rxSize (hb : s.busy = false) (z : U16) :
    s.hostWrites (bufWrites addrRxSize [byteOf z 0, byteOf z 1]) = { s with rxSize := z, valid := false } := by
  calc s.hostWrites (bufWrites addrRxSize [byteOf z 0, byteOf z 1])
    _ = s.regWrites 0x0A [byteOf z 0, byteOf z 1] := hostWrites_registers _ hb (by decide) (by simp)
    _ = { s with rxSize := setByte16 (setByte16 s.rxSize 0 (byteOf z 0)) 1 (byteOf z 1), valid := false } := rfl
    _ = { s with rxSize := z, valid := false } := by rw [setByte16_setByte16_byteOf]

theorem hostWrites_flen (hb : s.busy = false) (n : U32) :
    s.hostWrites (bufWrites addrFlen (bytesOf32 n)) = { s with flen := n, valid := false } := by
  calc s.hostWrites (bufWrites addrFlen (bytesOf32 n))
    _ = s.regWrites 0x0C (bytesOf32 n) := hostWrites_registers _ hb (by decide) (by simp [bytesOf32])
    _ = { s with
          flen := setByte32 (setByte32 (setByte32 (setByte32 s.flen 0 (byteOf n 0)) 1 (byteOf n 1)) 2 (byteOf n 2)) 3
            (byteOf n 3)
          valid := false } := rfl
    _ = { s with flen := n, valid := false } := by rw [setByte32_setByte32_byteOf]

theorem hostWrite_txLabel (hb : s.busy = false) (l : Byte) : s.hostWrite addrTxLabel l = { s with txLabel := l } :=
  hostWrite_register l hb (o := 0x04) (by decide) (by decide)

theorem hostWrite_rxLabel (hb : s.busy = false) (l : Byte) :
    s.hostWrite addrRxLabel l = { s with rxLabel := l, valid := false } :=
  hostWrite_register l hb (o := 0x08) (by decide) (by decide)

/-- A request row's program sets the TX descriptor and stores the payload (R141, R143). -/
theorem hostWrites_requestWrites (hb : s.busy = false) (label : Byte) (size : U16) {p : List Byte}
    (hlen : p.length ≤ 65536) :
    s.hostWrites (requestWrites label size p) =
      { s with txLabel := label, txSize := size, txbuf := Memory.storeList s.cfg.maxPayload s.txbuf 0 p } := by
  rw [requestWrites, hostWrites_append, hostWrites, hostWrite_txLabel hb, hostWrites_txSize (by exact hb),
    hostWrites_txbuf (by exact hb) hlen]

/-- A reply row's program sets the RX descriptor, stores the frame and its length, and clears VALID (R142, R144, R203). -/
theorem hostWrites_replyWrites (hb : s.busy = false) (label : Byte) (size : U16) {f : List Byte}
    (hlen : f.length ≤ 65536) :
    s.hostWrites (replyWrites label size f) =
      { s with
        rxLabel := label, rxSize := size, fbuf := Memory.storeList s.cfg.maxFrame s.fbuf 0 f
        flen := BitVec.ofNat 32 f.length, valid := false } := by
  rw [replyWrites, hostWrites_append, hostWrites_append, hostWrites, hostWrite_rxLabel hb, hostWrites_rxSize (by exact hb),
    hostWrites_fbuf (by exact hb) (by rfl) hlen, hostWrites_flen (by exact hb)]

end State

/-! ### The rows of the catalog (R141 to R144) -/

@[simp] theorem length_bufWrites (bs : List Byte) : ∀ a, (bufWrites a bs).length = bs.length := by
  induction bs with
  | nil => exact fun _ => rfl
  | cons b bs ih => exact fun a => congrArg (· + 1) (ih (a + 1))

theorem length_requestWrites (label : Byte) (size : U16) (p : List Byte) :
    (requestWrites label size p).length = p.length + 3 := by
  simp only [requestWrites, List.length_append, List.length_cons, length_bufWrites, List.length_nil]
  omega

theorem length_replyWrites (label : Byte) (size : U16) (f : List Byte) :
    (replyWrites label size f).length = f.length + 7 := by
  simp only [replyWrites, bytesOf32, List.length_append, List.length_cons, length_bufWrites, List.length_nil]
  omega

/-- The word of a row that stands for a program: its own step and those of its other writes. -/
theorem run_of_hostProgram {s : State} {i : Instr} {w : HostAddr × Byte} {ws : List (HostAddr × Byte)} {rest : List Turn}
    (hwf : i.wellFormed = true) (hexec : ∀ u, exec i u = .next (u.hostProgram (w :: ws)))
    (hsched : s.schedule = .word (encode i) :: rest) :
    run (w :: ws).length s = .next (({ s with schedule := rest } : State).hostWrites (w :: ws)) := by
  have hstep : step s = .next (({ s with schedule := rest } : State).hostProgram (w :: ws)) := by
    rw [step_of_word (State.nextTurn_of_schedule_cons hsched) (decodeOfEncodeIsTheInstruction i hwf),
      State.popTurn_of_schedule_cons hsched, hexec]
  rw [List.length_cons, Nat.add_comm, run_add (run_one_of_step hstep), run_hostProgram]

/-- What a program's own step leaves, run over the program's other writes. -/
theorem run_furtherWrites_of_exec {s t : State} {i : Instr} {w : HostAddr × Byte} {ws : List (HostAddr × Byte)}
    (hexec : exec i s = .next (s.hostProgram (w :: ws))) (hfirst : exec i s = .next t) :
    run ws.length t = .next (s.hostWrites (w :: ws)) := by
  obtain rfl : s.hostProgram (w :: ws) = t := Host.Outcome.next.inj (hexec.symm.trans hfirst)
  exact run_hostProgram s w ws

theorem txPayload_of_holds {s : State} {old : Memory} {p : List Byte} (h : Spec.Holds s.txbuf old p)
    (hlen : p.length = s.txSize.toNat) : Spec.txPayload s = p :=
  List.ext_getElem (by rw [length_txPayload, hlen]) fun i hi hp => (getElem_txPayload s hi).trans (h.1 i hp)

/-- The request rows with their label, size and payload (R141, R143). -/
inductive RequestRow : Instr → Byte → U16 → List Byte → Prop
  | parameters (p : U16) :
    RequestRow (.getParametersRequest p) 0x03 2 [BitVec.ofNat 8 p.toNat, BitVec.ofNat 8 (p.toNat / 256)]
  | serialNumber : RequestRow .getSerialNumberRequest 0x0A 0 []

/-- The reply rows with their label, size and payload (R142, R144). -/
inductive ReplyRow : Instr → Byte → U16 → List Byte → Prop
  | parameters (a b c d r : Byte) : ReplyRow (.getParametersReply a b c d r) 0x03 5 [a, b, c, d, r]
  | serialNumber (a b c d : Byte) : ReplyRow (.getSerialNumberReply a b c d) 0x0A 4 [a, b, c, d]

namespace RequestRow

variable {i : Instr} {label : Byte} {size : U16} {p : List Byte} {s : State}

theorem length_eq (row : RequestRow i label size p) : p.length = size.toNat := by
  cases row <;> rfl

/-- Every instance has room for a request's payload (R6). -/
theorem size_le (row : RequestRow i label size p) (c : Config) : size.toNat ≤ c.maxPayload := by
  have hlegal := c.legal.1
  cases row
  case parameters => exact Nat.le_trans (by decide) hlegal
  case serialNumber => exact Nat.zero_le _

theorem wellFormed (row : RequestRow i label size p) : i.wellFormed = true := by
  cases row <;> rfl

theorem encode_eq (row : RequestRow i label size p) : encode i = Spec.frameOf label size p := by
  cases row
  case parameters => rw [encode, frame_eq_frameOf, byteOf_zero_eq_ofNat, byteOf_one_eq_ofNat]
  case serialNumber => rw [encode, frame_eq_frameOf]

theorem decode_eq (row : RequestRow i label size p) : decode (Spec.frameOf label size p) = .ok i :=
  row.encode_eq ▸ decodeOfEncodeIsTheInstruction i row.wellFormed

theorem exec_eq (row : RequestRow i label size p) (s : State) :
    exec i s = .next (s.hostProgram (requestWrites label size p)) := by
  cases row
  case parameters =>
    rw [← byteOf_zero_eq_ofNat, ← byteOf_one_eq_ofNat]
    rfl
  case serialNumber => rfl

theorem hostWrites_eq (row : RequestRow i label size p) (hb : s.busy = false) :
    s.hostWrites (requestWrites label size p) =
      { s with txLabel := label, txSize := size, txbuf := Memory.storeList s.cfg.maxPayload s.txbuf 0 p } := by
  have hlen : p.length ≤ 65536 := row.length_eq ▸ size.isLt.le
  exact State.hostWrites_requestWrites hb label size hlen

theorem holds_txbuf (row : RequestRow i label size p) (hwf : s.txbuf.wf = true) :
    Spec.Holds (Memory.storeList s.cfg.maxPayload s.txbuf 0 p) s.txbuf p :=
  holds_storeList hwf (row.length_eq ▸ row.size_le s.cfg)

/-- The row's own step writes TX_LABEL. -/
theorem exec_firstWrite (row : RequestRow i label size p) (hb : s.busy = false) :
    exec i s = .next { s with
      txLabel := label, schedule := Spec.writes (requestWrites label size p).tail ++ s.schedule } := by
  rw [row.exec_eq]
  refine (congrArg Host.Outcome.next (s.hostProgram_cons _ _)).trans ?_
  rw [State.hostWrite_txLabel hb]
  rfl

/-- The steps behind the row's own complete its program. -/
theorem run_furtherWrites (row : RequestRow i label size p) (hb : s.busy = false) :
    run (p.length + 2) { s with
        txLabel := label, schedule := Spec.writes (requestWrites label size p).tail ++ s.schedule } =
      .next { s with txLabel := label, txSize := size, txbuf := Memory.storeList s.cfg.maxPayload s.txbuf 0 p } := by
  have hlen : (requestWrites label size p).tail.length = p.length + 2 := by
    rw [List.length_tail, length_requestWrites]
    omega
  rw [← hlen, ← row.hostWrites_eq hb]
  exact run_furtherWrites_of_exec (row.exec_eq s) (row.exec_firstWrite hb)

/-- The row's word with its further writes. -/
theorem run_word (row : RequestRow i label size p) (hb : s.busy = false) {rest : List Turn}
    (hsched : s.schedule = .word (encode i) :: rest) :
    run (p.length + 3) s = .next { s with
      txLabel := label, txSize := size, txbuf := Memory.storeList s.cfg.maxPayload s.txbuf 0 p, schedule := rest } := by
  rw [← length_requestWrites label size p]
  refine (run_of_hostProgram row.wellFormed row.exec_eq hsched).trans (congrArg Host.Outcome.next ?_)
  exact row.hostWrites_eq (s := { s with schedule := rest }) hb

/-- The row's program, ENCODE and the CORE's turn leave the row's frame in FBUF. -/
theorem run_encode (row : RequestRow i label size p) (hb : s.busy = false) (htx : s.txbuf.wf = true)
    (hf : s.fbuf.wf = true) {rest : List Turn}
    (hsched : s.schedule = .word (encode i) :: .word [0x01] :: .core :: rest) :
    ∃ t, run (p.length + 3 + 2) s = .next t ∧ t.result = .ok ∧ t.flen = BitVec.ofNat 32 (size.toNat + 5) ∧
      Spec.Holds t.fbuf s.fbuf (Spec.frameOf label size p) := by
  obtain ⟨f, henc, hholds⟩ := Machine.run_encode
    (s := { s with
      txLabel := label, txSize := size, txbuf := Memory.storeList s.cfg.maxPayload s.txbuf 0 p
      schedule := .word [0x01] :: .core :: rest })
    hb (row.size_le s.cfg) hf rfl
  rw [Spec.request, txPayload_of_holds (row.holds_txbuf htx) row.length_eq] at hholds
  exact ⟨_, (run_add (row.run_word hb hsched)).trans henc, rfl, rfl, hholds⟩

end RequestRow

namespace ReplyRow

variable {i : Instr} {label : Byte} {size : U16} {p : List Byte} {s : State}

theorem length_eq (row : ReplyRow i label size p) : p.length = size.toNat := by
  cases row <;> rfl

/-- Every instance has room for a reply's payload (R6). -/
theorem size_le (row : ReplyRow i label size p) (c : Config) : size.toNat ≤ c.maxPayload := by
  have hlegal := c.legal.1
  cases row
  case parameters => exact hlegal
  case serialNumber => exact Nat.le_trans (by decide) hlegal

theorem wellFormed (row : ReplyRow i label size p) : i.wellFormed = true := by
  cases row <;> rfl

theorem encode_eq (row : ReplyRow i label size p) : encode i = Spec.frameOf label size p := by
  rw [← frame_eq_frameOf]
  cases row <;> rfl

theorem decode_eq (row : ReplyRow i label size p) : decode (Spec.frameOf label size p) = .ok i :=
  row.encode_eq ▸ decodeOfEncodeIsTheInstruction i row.wellFormed

theorem exec_eq (row : ReplyRow i label size p) (s : State) :
    exec i s = .next (s.hostProgram (replyWrites label size (frame label size p))) := by
  cases row <;> rfl

theorem length_frame_le (row : ReplyRow i label size p) (c : Config) : (frame label size p).length ≤ c.maxFrame := by
  rw [length_frame, row.length_eq]
  exact Nat.add_le_add_right (row.size_le c) 5

theorem hostWrites_eq (row : ReplyRow i label size p) (hb : s.busy = false) :
    s.hostWrites (replyWrites label size (frame label size p)) =
      { s with
        rxLabel := label, rxSize := size, fbuf := Memory.storeList s.cfg.maxFrame s.fbuf 0 (frame label size p)
        flen := BitVec.ofNat 32 (p.length + 5), valid := false } := by
  have hlen : (frame label size p).length ≤ 65536 :=
    (row.length_frame_le s.cfg).trans (Nat.add_le_add_right s.cfg.legal.2 5)
  rw [State.hostWrites_replyWrites hb label size hlen, length_frame]

theorem holds_fbuf (row : ReplyRow i label size p) (hwf : s.fbuf.wf = true) :
    Spec.Holds (Memory.storeList s.cfg.maxFrame s.fbuf 0 (frame label size p)) s.fbuf (frame label size p) :=
  holds_storeList hwf (row.length_frame_le s.cfg)

/-- The row's own step writes RX_LABEL. -/
theorem exec_firstWrite (row : ReplyRow i label size p) (hb : s.busy = false) :
    exec i s = .next { s with
      rxLabel := label, valid := false
      schedule := Spec.writes (replyWrites label size (frame label size p)).tail ++ s.schedule } := by
  rw [row.exec_eq]
  refine (congrArg Host.Outcome.next (s.hostProgram_cons _ _)).trans ?_
  rw [State.hostWrite_rxLabel hb]
  rfl

/-- The steps behind the row's own complete its program. -/
theorem run_furtherWrites (row : ReplyRow i label size p) (hb : s.busy = false) :
    run (p.length + 11) { s with
        rxLabel := label, valid := false
        schedule := Spec.writes (replyWrites label size (frame label size p)).tail ++ s.schedule } =
      .next { s with
        rxLabel := label, rxSize := size, fbuf := Memory.storeList s.cfg.maxFrame s.fbuf 0 (frame label size p)
        flen := BitVec.ofNat 32 (p.length + 5), valid := false } := by
  have hlen : (replyWrites label size (frame label size p)).tail.length = p.length + 11 := by
    rw [List.length_tail, length_replyWrites, length_frame]
    omega
  rw [← hlen, ← row.hostWrites_eq hb]
  exact run_furtherWrites_of_exec (row.exec_eq s) (row.exec_firstWrite hb)

/-- The row's word with its further writes. -/
theorem run_word (row : ReplyRow i label size p) (hb : s.busy = false) {rest : List Turn}
    (hsched : s.schedule = .word (encode i) :: rest) :
    run (p.length + 12) s = .next { s with
      rxLabel := label, rxSize := size, fbuf := Memory.storeList s.cfg.maxFrame s.fbuf 0 (frame label size p)
      flen := BitVec.ofNat 32 (p.length + 5), valid := false, schedule := rest } := by
  have hlen : (replyWrites label size (frame label size p)).length = p.length + 12 := by
    rw [length_replyWrites, length_frame]
  rw [← hlen]
  refine (run_of_hostProgram row.wellFormed row.exec_eq hsched).trans (congrArg Host.Outcome.next ?_)
  exact row.hostWrites_eq (s := { s with schedule := rest }) hb

/-- The row's program, DECODE and the CORE's turn validate the frame and open the aperture on its payload. -/
theorem run_decode (row : ReplyRow i label size p) (hb : s.busy = false) (hf : s.fbuf.wf = true) {rest : List Turn}
    (hsched : s.schedule = .word (encode i) :: .word [0x02] :: .core :: rest) :
    ∃ t, run (p.length + 12 + 2) s = .next t ∧ t.result = .ok ∧ t.valid = true ∧ t.lenw = false ∧
      (∀ (j : Nat) (h : j < p.length), t.apRead j = p[j]) ∧ t.apRead p.length = 0x00 := by
  have hframe : HoldsFrame _ label (byteOf size 0) (byteOf size 1) p := holdsFrame_of_holds (row.holds_fbuf hf)
  have hflen : (BitVec.ofNat 32 (p.length + 5)).toNat = size.toNat + 5 := by
    have hlt := size.isLt
    rw [BitVec.toNat_ofNat, row.length_eq]
    omega
  have hdec := run_decode_of_holdsFrame
    (s := { s with
      rxLabel := label, rxSize := size, fbuf := Memory.storeList s.cfg.maxFrame s.fbuf 0 (frame label size p)
      flen := BitVec.ofNat 32 (p.length + 5), valid := false, schedule := .word [0x02] :: .core :: rest })
    hb (row.size_le s.cfg) hframe row.length_eq hflen rfl
  refine ⟨_, (run_add (row.run_word hb hsched)).trans hdec, rfl, rfl, ?lenw, fun j hj => ?inside, ?outside⟩
  case lenw => exact bne_eq_false_iff_eq.2 (le16_byteOf size)
  case inside =>
    have hrx : j < size.toNat := row.length_eq ▸ hj
    exact (State.apRead_of_valid rfl hrx).trans (hframe.payload j hj)
  case outside => exact if_neg fun h => absurd h.2 (Nat.not_lt.2 row.length_eq.ge)

end ReplyRow

/-! ### The obligations -/

/-- Settles O5: each row's bytes are its encoding, which decodes to the row. -/
theorem catalogFrameBytesDecode : Obligations.CatalogFrameBytesDecode :=
  ⟨fun p => (RequestRow.parameters p).decode_eq, fun a b c d r => (ReplyRow.parameters a b c d r).decode_eq,
    RequestRow.serialNumber.decode_eq, fun a b c d => (ReplyRow.serialNumber a b c d).decode_eq⟩

/-- Settles O39: the row's program is its first write and the further ones, which set the TX descriptor and TXBUF. -/
theorem requestFramesProgramTheTxDescriptor : Obligations.RequestFramesProgramTheTxDescriptor := by
  intro s hb hwf
  refine ⟨fun p => ?parameters, ?serialNumber⟩
  case parameters =>
    have row := RequestRow.parameters p
    exact ⟨_, _, row.exec_firstWrite hb, rfl, row.run_furtherWrites hb, row.holds_txbuf hwf⟩
  case serialNumber =>
    have row := RequestRow.serialNumber
    exact ⟨_, row.exec_firstWrite hb, rfl, row.run_furtherWrites hb⟩

/-- Settles O40: the row's program is its first write and the further ones, which set the RX descriptor, FBUF and FLEN. -/
theorem replyFramesProgramTheRxDescriptor : Obligations.ReplyFramesProgramTheRxDescriptor := by
  intro s hb hwf
  refine ⟨fun a b c d r => ?parameters, fun a b c d => ?serialNumber⟩
  case parameters =>
    have row := ReplyRow.parameters a b c d r
    refine ⟨_, _, row.exec_firstWrite hb, ?_, row.run_furtherWrites hb, row.holds_fbuf hwf⟩
    rw [replyWrites, length_frame, row.length_eq]
    rfl
  case serialNumber =>
    have row := ReplyRow.serialNumber a b c d
    refine ⟨_, _, row.exec_firstWrite hb, ?_, row.run_furtherWrites hb, row.holds_fbuf hwf⟩
    rw [replyWrites, length_frame, row.length_eq]
    rfl

/-- Settles O42: a request row's program sets up the frame ENCODE builds, a reply row's the frame DECODE checks. -/
theorem catalogTypesEncodeAndDecode : Obligations.CatalogTypesEncodeAndDecode := by
  intro s rest hb htx hf
  refine ⟨fun p hsched => (RequestRow.parameters p).run_encode hb htx hf hsched,
    fun hsched => RequestRow.serialNumber.run_encode hb htx hf hsched, fun a b c d r hsched => ?parametersReply,
    fun a b c d hsched => ?serialNumberReply⟩
  case parametersReply =>
    obtain ⟨t, hrun, hok, hvalid, hlenw, hinside, houtside⟩ := (ReplyRow.parameters a b c d r).run_decode hb hf hsched
    exact ⟨t, hrun, hok, hvalid, hlenw, hinside 0 (by simp), hinside 1 (by simp), hinside 2 (by simp),
      hinside 3 (by simp), hinside 4 (by simp), houtside⟩
  case serialNumberReply =>
    obtain ⟨t, hrun, hok, hvalid, hlenw, hinside, houtside⟩ := (ReplyRow.serialNumber a b c d).run_decode hb hf hsched
    exact ⟨t, hrun, hok, hvalid, hlenw, hinside 0 (by simp), hinside 1 (by simp), hinside 2 (by simp),
      hinside 3 (by simp), houtside⟩

end Sys2Proof.Machine

/-! ## The transaction (spec/43_transaction.md): the responses when they answer and when they are dropped, the wait for an
answer, the reply check, a TRANSACT as a run, and the statements O30, O32, O33, O34, O35, O36 and O38. -/

namespace Sys2Proof.Machine

/-! ### Responses that answer the outstanding request (R164, R165) -/

theorem State.awaitsRead_iff (s : State) : s.awaitsRead = true ↔ s.phase = .rxw ∧ s.pend = .rx := by
  simp [State.awaitsRead]

theorem exec_wrCount_awaited {s : State} (h : s.awaitsWrite = true) (c : U32) :
    exec (.wrCount c) s = .next (s.writeCount c) := congrArg Host.Outcome.next (if_pos h)

theorem exec_wrErr_awaited {s : State} (h : s.awaitsWrite = true) (e : Byte) :
    exec (.wrErr e) s = .next (s.failTransport e false) := congrArg Host.Outcome.next (if_pos h)

theorem exec_rdData_awaited {s : State} {b : List Byte} (h : s.awaitsRead = true) (hlen : b.length = s.rxSize.toNat + 5) :
    exec (.rdData b) s = .next (s.readData b) := congrArg Host.Outcome.next (if_pos ⟨h, hlen⟩)

theorem exec_rdErr_awaited {s : State} (h : s.awaitsRead = true) (e : Byte) :
    exec (.rdErr e) s = .next (s.failTransport e true) := congrArg Host.Outcome.next (if_pos h)

namespace State

theorem writeCount_of_ne {s : State} {c : U32} (h : c ≠ s.flen) :
    s.writeCount c = { Spec.ended s .lengthError with txCount := c } := if_neg h

theorem readData_of_length {s : State} {b : List Byte} (hlen : b.length = s.rxSize.toNat + 5) :
    s.readData b = { s with
      fbuf := Memory.storeList s.cfg.maxFrame s.fbuf 0 b, flen := BitVec.ofNat 32 (s.rxSize.toNat + 5)
      pend := .none, phase := .dec } := by
  rw [← hlen]
  rfl

/-- A reply whose descriptor fits lies inside FBUF (R124, R163). -/
theorem holds_reply {s : State} {m : Memory} {b : List Byte} (hm : m.wf = true) (hfits : Spec.rxFits s)
    (hlen : b.length = s.rxSize.toNat + 5) : Spec.Holds (Memory.storeList s.cfg.maxFrame m 0 b) m b :=
  holds_storeList hm (hlen ▸ Nat.add_le_add_right hfits 5)

end State

/-! ### Responses that answer nothing (R160, R169) -/

theorem exec_wrCount_dropped {s : State} (h : ¬s.awaitsWrite = true) (c : U32) : exec (.wrCount c) s = .next s :=
  congrArg Host.Outcome.next (if_neg h)

theorem exec_wrErr_dropped {s : State} (h : ¬s.awaitsWrite = true) (e : Byte) : exec (.wrErr e) s = .next s :=
  congrArg Host.Outcome.next (if_neg h)

theorem exec_rdData_dropped {s : State} {b : List Byte} (h : ¬(s.awaitsRead = true ∧ b.length = s.rxSize.toNat + 5)) :
    exec (.rdData b) s = .next s := congrArg Host.Outcome.next (if_neg h)

theorem exec_rdErr_dropped {s : State} (h : ¬s.awaitsRead = true) (e : Byte) : exec (.rdErr e) s = .next s :=
  congrArg Host.Outcome.next (if_neg h)

/-! ### The wait for an answer (R167) -/

/-- `i` is no message that ends the wait in this phase: in TXW neither a write response nor RxReq, which accepts the full
count, and in RXW no read response. -/
def Phase.NotEndedBy (ph : Phase) (i : Instr) : Prop :=
  (ph = .txw → (∀ c, i ≠ .wrCount c) ∧ (∀ e, i ≠ .wrErr e) ∧ ∀ n, i ≠ .rxReq n) ∧
    (ph = .rxw → (∀ b, i ≠ .rdData b) ∧ ∀ e, i ≠ .rdErr e)

/-- A transport message that does not end the wait, and that the CORE does not send now, changes nothing. -/
theorem exec_message_dropped {i : Instr} {s : State} (hmsg : Spec.isHostWord i = false) (henc : s.phase ≠ .enc)
    (h : s.phase.NotEndedBy i) : exec i s = .next s := by
  obtain ⟨htxw, hrxw⟩ := h
  have hwrite (hw : s.awaitsWrite = true) := htxw (s.awaitsWrite_iff.1 hw).1
  have hread (hr : s.awaitsRead = true) := hrxw (s.awaitsRead_iff.1 hr).1
  cases i
  case txReq f => exact exec_txReq_unsent fun hsent => henc hsent.1
  case rxReq n =>
    refine exec_rxReq_unsent fun hsent => ?_
    obtain ⟨-, -, hrxReq⟩ := hwrite hsent.1
    exact hrxReq n rfl
  case wrCount c => exact exec_wrCount_dropped (fun hw => (hwrite hw).1 c rfl) c
  case wrErr e =>
    refine exec_wrErr_dropped (fun hw => ?_) e
    obtain ⟨-, hwrErr, -⟩ := hwrite hw
    exact hwrErr e rfl
  case rdData b => exact exec_rdData_dropped fun hr => (hread hr.1).1 b rfl
  case rdErr e => exact exec_rdErr_dropped (fun hr => (hread hr).2 e rfl) e
  all_goals cases hmsg

theorem State.coreTurn_of_waiting {s : State} (h : s.phase = .txw ∨ s.phase = .rxw) : s.coreTurn = s := by
  rcases h with hp | hp <;> simp [State.coreTurn, hp]

/-- While the transport owes an answer, a turn that is neither RESET nor a message ending the wait can only set REJ or
read. -/
theorem sameButRej_of_step_waiting {s t : State} (hs : step s = .next t) (hb : s.busy = true)
    (hreset : ∀ d, s.nextTurn ≠ .reset d) (hphase : s.phase = .txw ∨ s.phase = .rxw)
    (hword : ∀ bytes i, s.nextTurn = .word bytes → decode bytes = .ok i → s.phase.NotEndedBy i) :
    s.SameButRej t := by
  rcases step_next_cases hs with ⟨bytes, i, hturn, hdec, he⟩ | ⟨-, rfl⟩ | ⟨d, hturn, -⟩
  · cases hi : Spec.isHostWord i with
    | true => exact exec_hostWord_of_busy (s := s.popTurn) hi hb he
    | false =>
      have henc : s.phase ≠ .enc := by rcases hphase with hp | hp <;> simp [hp]
      have hdrop := exec_message_dropped (s := s.popTurn) hi henc (hword bytes i hturn hdec)
      obtain rfl : s.popTurn = t := Host.Outcome.next.inj (hdrop.symm.trans he)
      rfl
  · rw [State.coreTurn_of_waiting (s := s.popTurn) hphase]
    rfl
  · exact absurd hturn (hreset d)

/-! ### The reply check (R166) -/

/-- With the length right, the check answers OK or names the markers or the label (R122). -/
theorem check_of_length_eq {m : Memory} {n : Nat} {l : Byte} {z : Nat} (h : n = z + 5) :
    check m n l z = .ok ∨ check m n l z = .frameError ∨ check m n l z = .labelError := by
  by_cases hmarkers : m.read 0 ≠ 0x7E ∨ m.read (n - 1) ≠ 0xE7
  · exact .inr (.inl (check_of_markers_ne h hmarkers))
  · by_cases hlabel : m.read 1 = l
    · obtain ⟨hstart, hend⟩ := not_or.1 hmarkers
      exact .inl ((check_eq_ok_iff m n l z).2 ⟨h, not_not.1 hstart, not_not.1 hend, hlabel⟩)
    · exact .inr (.inr (check_of_label_ne h hmarkers hlabel))

namespace State

@[simp] theorem decStep_busy (s : State) : s.decStep.busy = false := by
  unfold decStep; split <;> rfl

/-- DecStep completes with what the check answers. -/
@[simp] theorem decStep_result (s : State) : s.decStep.result = s.checkResult := by
  unfold decStep
  split
  · next hok => exact hok.symm
  · rfl

theorem coreTurn_of_dec {s : State} (h : s.phase = .dec) : s.coreTurn = s.decStep := by
  simp [coreTurn, h]

end State

/-! ### A TRANSACT as the steps of a run (R163) -/

namespace State

/-- What TRANSACT and EncStep leave: the request frame is in FBUF and sent, and its write is outstanding (R121, R163). -/
def requestSent (s : State) : State :=
  { Spec.issued s .transact .txw with
    fbuf := Memory.storeList s.cfg.maxFrame s.fbuf 0 (Spec.request s)
    flen := BitVec.ofNat 32 (s.txSize.toNat + 5)
    pend := .tx
    portSent := s.portSent ++ [.txReq (Spec.request s)] }

theorem encStep_of_issued_transact (s : State) : (Spec.issued s .transact .enc).encStep = s.requestSent := by
  rw [encStep_transact (by simp [Spec.issued]), loadFrame, requestFrame_eq_request, length_request]
  rfl

end State

/-- The word of an instruction at the head of the schedule runs it. -/
theorem step_of_encode {s : State} {i : Instr} {rest : List Turn} (hwf : i.wellFormed = true)
    (hsched : s.schedule = .word (encode i) :: rest) : step s = exec i { s with schedule := rest } := by
  rw [step_of_word (State.nextTurn_of_schedule_cons hsched) (decodeOfEncodeIsTheInstruction i hwf),
    State.popTurn_of_schedule_cons hsched]

/-- A reply whose descriptor fits has a length the port allows (R6, R160). -/
theorem wellFormed_rdData_of_rxFits {s : State} {b : List Byte} (hfits : Spec.rxFits s)
    (hlen : b.length = s.rxSize.toNat + 5) : (Instr.rdData b).wellFormed = true := by
  have hmax := s.cfg.legal.2
  have hsize : s.rxSize.toNat ≤ s.cfg.maxPayload := hfits
  exact decide_eq_true (by omega : 5 ≤ b.length ∧ b.length ≤ 65536)

/-- TRANSACT and the CORE's turn on an idle state whose descriptors fit. -/
theorem run_transact {s : State} {rest : List Turn} (hb : s.busy = false) (htx : Spec.txFits s) (hrx : Spec.rxFits s)
    (hsched : s.schedule = .word [0x03] :: .core :: rest) :
    run 2 s = .next { s.requestSent with schedule := rest } := by
  obtain ⟨-, -, -, -, hissue, -⟩ := issueStartsTheOperationOrReportsDescError { s with schedule := rest } hb
  exact (run_cmd_core .issueTransact hsched (hissue ⟨htx, hrx⟩)).trans
    (congrArg Host.Outcome.next (State.encStep_of_issued_transact { s with schedule := rest }))

/-- The full write count, as a step (R164). -/
theorem step_fullCount {s : State} {rest : List Turn} (hwait : s.awaitsWrite = true)
    (hsched : s.schedule = .word (encode (.wrCount s.flen)) :: rest) :
    step s = .next { s with
      txCount := s.flen, portSent := s.portSent ++ [.rxReq (s.rxSize.toNat + 5)], pend := .rx, phase := .rxw
      schedule := rest } := by
  rw [step_of_encode rfl hsched, exec_wrCount_awaited (s := { s with schedule := rest }) hwait]
  exact congrArg Host.Outcome.next (State.writeCount_flen { s with schedule := rest })

/-- The reply, as a step (R165). -/
theorem step_reply {s : State} {b : List Byte} {rest : List Turn} (hwait : s.awaitsRead = true) (hfits : Spec.rxFits s)
    (hlen : b.length = s.rxSize.toNat + 5) (hsched : s.schedule = .word (encode (.rdData b)) :: rest) :
    step s = .next { s with
      fbuf := Memory.storeList s.cfg.maxFrame s.fbuf 0 b, flen := BitVec.ofNat 32 (s.rxSize.toNat + 5)
      pend := .none, phase := .dec, schedule := rest } := by
  rw [step_of_encode (wellFormed_rdData_of_rxFits hfits hlen) hsched,
    exec_rdData_awaited (s := { s with schedule := rest }) hwait hlen]
  exact congrArg Host.Outcome.next (State.readData_of_length (s := { s with schedule := rest }) hlen)

/-- The CORE's turn in DEC on a frame of the RX descriptor, as a step (R166). -/
theorem step_core_of_holdsFrame {s : State} {lenLow lenHigh : Byte} {p : List Byte} {rest : List Turn}
    (hphase : s.phase = .dec) (hframe : HoldsFrame s.fbuf s.rxLabel lenLow lenHigh p)
    (hsize : p.length = s.rxSize.toNat) (hflen : s.flen.toNat = s.rxSize.toNat + 5)
    (hsched : s.schedule = .core :: rest) :
    step s = .next { Spec.ended s .ok with
      valid := true, rxLenField := le16 lenLow lenHigh, lenw := le16 lenLow lenHigh != s.rxSize, schedule := rest } := by
  rw [step_of_core (State.nextTurn_of_schedule_cons hsched), State.popTurn_of_schedule_cons hsched,
    State.coreTurn_of_dec (s := { s with schedule := rest }) hphase]
  exact congrArg Host.Outcome.next (State.decStep_of_holdsFrame (s := { s with schedule := rest }) hframe hsize hflen)

/-- FLEN as a number, for a frame whose SIZE is a u16 (R9). -/
theorem toNat_frameLength (z : U16) : (BitVec.ofNat 32 (z.toNat + 5)).toNat = z.toNat + 5 := by
  have hlt := z.isLt
  rw [BitVec.toNat_ofNat]
  omega

/-- What a TRANSACT with the reply `b` loaded over the request leaves when its check passes (R163, R166). -/
def State.replyChecked (s : State) (b : List Byte) (lenField : U16) : State :=
  { Spec.completed s .ok with
    valid := true
    fbuf := Memory.storeList s.cfg.maxFrame s.requestSent.fbuf 0 b
    flen := BitVec.ofNat 32 (s.rxSize.toNat + 5)
    txCount := BitVec.ofNat 32 (s.txSize.toNat + 5)
    rxLenField := lenField
    lenw := lenField != s.rxSize
    portSent := s.requestSent.portSent ++ [.rxReq (s.rxSize.toNat + 5)] }

/-- The five turns of a TRANSACT whose write is taken whole and whose reply is a frame of the RX descriptor. -/
theorem run_transact_reply {s : State} {p : List Byte} {lenLow lenHigh : Byte} {rest : List Turn} {b : List Byte}
    (hb : s.busy = false) (htx : Spec.txFits s) (hrx : Spec.rxFits s) (hlen : b.length = s.rxSize.toNat + 5)
    (hsize : p.length = s.rxSize.toNat)
    (hframe : HoldsFrame (Memory.storeList s.cfg.maxFrame s.requestSent.fbuf 0 b) s.rxLabel lenLow lenHigh p)
    (hsched : s.schedule = .word [0x03] :: .core :: .word (encode (.wrCount (BitVec.ofNat 32 (s.txSize.toNat + 5)))) ::
      .word (encode (.rdData b)) :: .core :: rest) :
    run 5 s = .next { s.replyChecked b (le16 lenLow lenHigh) with schedule := rest } := by
  have hsent := run_transact hb htx hrx hsched
  have hread := (run_add hsent).trans (run_one_of_step (step_fullCount rfl rfl))
  have hdec := (run_add hread).trans (run_one_of_step (step_reply rfl hrx hlen rfl))
  exact (run_add hdec).trans
    (run_one_of_step (step_core_of_holdsFrame rfl hframe hsize (toNat_frameLength s.rxSize) rfl))

/-! ### The obligations -/

/-- Settles O32: a read error is a completion, and a reply of the expected length is loaded for the check. -/
theorem readResponseLoadsTheReply : Obligations.ReadResponseLoadsTheReply := by
  intro s hphase hpend hfits hwf
  have hwait : s.awaitsRead = true := s.awaitsRead_iff.2 ⟨hphase, hpend⟩
  refine ⟨fun e => exec_rdErr_awaited hwait e, fun b hlen => ⟨_, ?_, State.holds_reply hwf hfits hlen⟩⟩
  rw [exec_rdData_awaited hwait hlen, State.readData_of_length hlen]

/-- Settles O35: the invariant gives FLEN = RX_SIZE + 5, so the check goes past the length. -/
theorem replyCheckNeverReportsLength : Obligations.ReplyCheckNeverReportsLength := by
  intro s hinv hphase hop
  obtain ⟨-, -, hflen⟩ := hinv.length
  rw [State.coreTurn_of_dec hphase, s.decStep_result]
  exact ⟨s.decStep_busy, check_of_length_eq (hflen hphase hop)⟩

/-- Settles O36: the run of the five turns, whose reply lies in FBUF as a frame of the RX descriptor. -/
theorem fullTransactionDeliversTheReplyPayload : Obligations.FullTransactionDeliversTheReplyPayload := by
  intro s p n0 n1 rest hb htx hrx hwf hsize hsched
  have hlen : ([0x7E, s.rxLabel, n0, n1] ++ p ++ [0xE7]).length = s.rxSize.toNat + 5 := by simp [hsize]
  have hrequest : Spec.Holds s.requestSent.fbuf s.fbuf (Spec.request s) :=
    holds_storeList hwf ((length_request s).trans_le (Nat.add_le_add_right htx 5))
  have hreply := State.holds_reply (m := s.requestSent.fbuf) (Memory.wf_storeList _ _ _ hwf) hrx hlen
  have hframe := holdsFrame_of_holds hreply
  refine ⟨_, run_transact_reply hb htx hrx hlen hsize hframe hsched, rfl, rfl, rfl, rfl, rfl,
    toNat_frameLength s.rxSize, toNat_frameLength s.txSize, rfl, ?lenw, ?portSent, ⟨_, hrequest, hreply⟩,
    fun i hi => ?payload, rfl, rfl, rfl, rfl, rfl, rfl, rfl, rfl⟩
  case lenw => simp [State.replyChecked, bne, beq_eq_decide, le16]
  case portSent => exact List.append_assoc _ _ _
  case payload => exact (State.apRead_of_valid rfl (hsize ▸ hi)).trans (hframe.payload i hi)

/-- Settles O38: such a turn can only set REJ or read. -/
theorem onlyAnAnswerOrResetEndsTheWait : Obligations.OnlyAnAnswerOrResetEndsTheWait := by
  intro s t hs hb hreset hwait
  have hsame : s.SameButRej t := by
    rcases hwait with ⟨hp, hword⟩ | ⟨hp, hword⟩
    · exact sameButRej_of_step_waiting hs hb hreset (.inl hp) fun bytes i hturn hdec =>
        ⟨fun _ => hword bytes i hturn hdec, fun hrxw => by simp [hp] at hrxw⟩
    · exact sameButRej_of_step_waiting hs hb hreset (.inr hp) fun bytes i hturn hdec =>
        ⟨fun htxw => by simp [hp] at htxw, fun _ => hword bytes i hturn hdec⟩
  rw [hsame]
  exact ⟨hb, rfl, rfl, rfl, rfl, rfl, rfl, rfl⟩

/-- Settles O30: an error and a wrong count are completions, and the full count sends the read. -/
theorem writeResponseDecidesTheRead : Obligations.WriteResponseDecidesTheRead := by
  intro s hphase hpend
  have hwait : s.awaitsWrite = true := s.awaitsWrite_iff.2 ⟨hphase, hpend⟩
  refine ⟨fun e => exec_wrErr_awaited hwait e, fun c hc => ?wrongCount, ?fullCount⟩
  case wrongCount => rw [exec_wrCount_awaited hwait, State.writeCount_of_ne hc]
  case fullCount =>
    rw [exec_wrCount_awaited hwait, s.writeCount_flen]
    rfl

/-- Settles O33: with PEND = none no request is outstanding. -/
theorem staleResponsesAreDropped : Obligations.StaleResponsesAreDropped := by
  intro s hpend
  have hwrite : ¬s.awaitsWrite = true := by simp [s.awaitsWrite_iff, hpend]
  have hread : ¬s.awaitsRead = true := by simp [s.awaitsRead_iff, hpend]
  exact ⟨exec_wrCount_dropped hwrite, exec_wrErr_dropped hwrite, fun _ => exec_rdData_dropped fun h => hread h.1,
    exec_rdErr_dropped hread⟩

/-- Settles O34: outside TXW no write is outstanding, outside RXW no read, and a read is answered by its length only. -/
theorem unmatchedResponsesChangeNothing : Obligations.UnmatchedResponsesChangeNothing := by
  intro s
  refine ⟨fun hphase => ?write, fun hphase => ?read, fun b hlen => exec_rdData_dropped fun h => hlen h.2⟩
  case write =>
    have hwrite : ¬s.awaitsWrite = true := by simp [s.awaitsWrite_iff, hphase]
    exact ⟨exec_wrCount_dropped hwrite, exec_wrErr_dropped hwrite⟩
  case read =>
    have hread : ¬s.awaitsRead = true := by simp [s.awaitsRead_iff, hphase]
    exact ⟨fun _ => exec_rdData_dropped fun h => hread h.1, exec_rdErr_dropped hread⟩

end Sys2Proof.Machine

/-! ## The exceptions (spec/60_exceptions.md): the failing answers as steps of a run, BUSY falls by a completion or by RESET
only, and the statements O37 and O54. -/

namespace Sys2Proof.Machine

/-! ### The failing answers of the transport, as steps (R164, R165, R181) -/

theorem step_writeError {s : State} {e : Byte} {rest : List Turn} (hwait : s.awaitsWrite = true)
    (hsched : s.schedule = .word (encode (.wrErr e)) :: rest) :
    step s = .next { Spec.ended s .transportError with tcause := e, tdir := false, schedule := rest } := by
  rw [step_of_encode rfl hsched, exec_wrErr_awaited (s := { s with schedule := rest }) hwait]
  rfl

theorem step_wrongCount {s : State} {c : U32} {rest : List Turn} (hwait : s.awaitsWrite = true) (hc : c ≠ s.flen)
    (hsched : s.schedule = .word (encode (.wrCount c)) :: rest) :
    step s = .next { Spec.ended s .lengthError with txCount := c, schedule := rest } := by
  rw [step_of_encode rfl hsched, exec_wrCount_awaited (s := { s with schedule := rest }) hwait]
  exact congrArg Host.Outcome.next (State.writeCount_of_ne (s := { s with schedule := rest }) hc)

theorem step_readError {s : State} {e : Byte} {rest : List Turn} (hwait : s.awaitsRead = true)
    (hsched : s.schedule = .word (encode (.rdErr e)) :: rest) :
    step s = .next { Spec.ended s .transportError with tcause := e, tdir := true, schedule := rest } := by
  rw [step_of_encode rfl hsched, exec_rdErr_awaited (s := { s with schedule := rest }) hwait]
  rfl

/-- While the write is outstanding FBUF holds the request frame over its old bytes (R121, R163). -/
theorem State.holds_requestSent {s : State} (hfits : Spec.txFits s) (hwf : s.fbuf.wf = true) :
    Spec.Holds s.requestSent.fbuf s.fbuf (Spec.request s) :=
  holds_storeList hwf ((length_request s).trans_le (Nat.add_le_add_right hfits 5))

/-! ### BUSY falls by complete(code) or by RESET only (R180, R187) -/

/-- `t` is the outcome of complete(code). -/
def State.IsCompletion (t : State) : Prop := ∃ u code, t = State.complete u code

theorem State.encStep_isCompletion {s : State} (hb : s.busy = true) (ht : s.encStep.busy = false) :
    s.encStep.IsCompletion := by
  by_cases hop : s.opr = some .encode
  · exact ⟨_, _, State.encStep_encode hop⟩
  · rw [State.encStep_transact hop] at ht
    simp [hb] at ht

theorem State.decStep_isCompletion (s : State) : s.decStep.IsCompletion := by
  unfold State.decStep
  split
  · exact ⟨_, _, rfl⟩
  · exact ⟨_, _, rfl⟩

theorem State.coreTurn_isCompletion {s : State} (hb : s.busy = true) (ht : s.coreTurn.busy = false) :
    s.coreTurn.IsCompletion := by
  rcases s.coreTurn_cases with ⟨-, e⟩ | ⟨-, e⟩ | e <;> rw [e] at ht ⊢
  · exact State.encStep_isCompletion hb ht
  · exact s.decStep_isCompletion
  · simp [hb] at ht

theorem State.writeCount_isCompletion {s : State} {c : U32} (hb : s.busy = true) (ht : (s.writeCount c).busy = false) :
    (s.writeCount c).IsCompletion := by
  by_cases hc : c = s.flen
  · subst hc
    rw [s.writeCount_flen] at ht
    simp [hb] at ht
  · exact ⟨_, _, if_neg hc⟩

/-- An instruction that turns BUSY from 1 to 0 completes the operation. -/
theorem State.Effect.isCompletion {i : Instr} {s t : State} (h : s.Effect i t) (hb : s.busy = true)
    (ht : t.busy = false) : t.IsCompletion := by
  cases h with
  | ignored ts => exact absurd (hb.symm.trans ht) nofun
  | read a => exact absurd (hb.symm.trans ht) nofun
  | rejected => exact absurd (hb.symm.trans ht) nofun
  | issued op hi idle => exact absurd (hb.symm.trans idle) nofun
  | wrote r o v ts idle => exact absurd (hb.symm.trans idle) nofun
  | encoded hp => exact State.encStep_isCompletion hb ht
  | counted c hw => exact State.writeCount_isCompletion hb ht
  | failed e dir hw => exact ⟨_, _, rfl⟩
  | replied b hr hl => exact absurd (hb.symm.trans ht) nofun

/-- A step that turns BUSY from 1 to 0 is a RESET or completes the operation. -/
theorem reset_or_isCompletion_of_step {s t : State} (hs : step s = .next t) (hb : s.busy = true)
    (ht : t.busy = false) : (∃ d, s.nextTurn = .reset d) ∨ t.IsCompletion := by
  rcases step_next_cases hs with ⟨_, _, _, _, he⟩ | ⟨_, rfl⟩ | ⟨d, hturn, _⟩
  · exact .inr ((exec_effect he).isCompletion hb ht)
  · exact .inr (State.coreTurn_isCompletion (s := s.popTurn) hb ht)
  · exact .inl ⟨d, hturn⟩

/-- The closed aperture reads 0x00 everywhere (R108). -/
theorem State.apRead_of_closed {s : State} (h : s.valid = false) (o : Nat) : s.apRead o = 0x00 := by
  simp [State.apRead, h]

/-- In the invariant a result other than OK leaves the aperture closed (R24). -/
theorem State.Inv.valid_of_result_ne_ok {s : State} (h : s.Inv) (hr : s.result ≠ .ok) : s.valid = false := by
  obtain ⟨-, hvalid, -⟩ := h.flag
  exact Bool.eq_false_iff.2 fun hv => hr (hvalid hv).2

/-! ### The obligations -/

/-- Settles O37: each run is TRANSACT and EncStep, which put the request frame into FBUF, and then the failing answer,
after the full count in the last clause; no answer writes FBUF or FLEN. -/
theorem failedTransactionsKeepTheRequestFrame : Obligations.FailedTransactionsKeepTheRequestFrame := by
  intro s e c rest hb htx hrx hwf
  have hrequest := State.holds_requestSent htx hwf
  have hflen := toNat_frameLength s.txSize
  refine ⟨fun hsched => ?writeError, fun hc hsched => ?wrongCount, fun hc hsched => ?readError⟩
  case writeError =>
    have hsent := run_transact hb htx hrx hsched
    exact ⟨_, (run_add hsent).trans (run_one_of_step (step_writeError rfl rfl)),
      rfl, rfl, rfl, rfl, rfl, rfl, rfl, hflen, hrequest, rfl⟩
  case wrongCount =>
    have hsent := run_transact hb htx hrx hsched
    have hne : c ≠ s.requestSent.flen := fun heq => hc (heq ▸ hflen)
    exact ⟨_, (run_add hsent).trans (run_one_of_step (step_wrongCount rfl hne rfl)),
      rfl, rfl, rfl, rfl, rfl, rfl, rfl, hflen, hrequest, rfl⟩
  case readError =>
    obtain rfl : c = s.requestSent.flen := BitVec.eq_of_toNat_eq (hc.trans hflen.symm)
    have hsent := run_transact hb htx hrx hsched
    have hread := (run_add hsent).trans (run_one_of_step (step_fullCount rfl rfl))
    exact ⟨_, (run_add hread).trans (run_one_of_step (step_readError rfl rfl)),
      rfl, rfl, rfl, rfl, rfl, rfl, rfl, hflen, hrequest, List.append_assoc _ _ _⟩

/-- Settles O54: the step is a RESET or complete(code), and the invariant of the state it leaves says that a completed
operation has a result, and that any result but OK leaves the aperture closed. -/
theorem busyEndsOnlyByCompletionOrReset : Obligations.BusyEndsOnlyByCompletionOrReset := by
  intro s t hinv hb hs ht
  rcases reset_or_isCompletion_of_step hs hb ht with hreset | ⟨u, code, rfl⟩
  · exact .inl hreset
  · have hinv' := hinv.step hs
    obtain ⟨-, -, hdone⟩ := hinv'.flag
    refine .inr ⟨rfl, hdone.1 rfl, rfl, rfl, rfl, fun herr => ?_⟩
    have hclosed := hinv'.valid_of_result_ne_ok herr
    exact ⟨hclosed, State.apRead_of_closed hclosed⟩

end Sys2Proof.Machine

/-! ## Reset and hazards (spec/70_reset_and_hazards.md): a draw longer than its buffer, host writes and programs of host
writes dropped while BUSY = 1, and the statements O16, O41 and O43. -/

namespace Sys2Proof.Machine

/-! ### The draw of a RESET (R40, R200) -/

/-- Of the bytes stored from an address on, those past the capacity are lost (R63). -/
theorem Memory.storeList_take (cap : Nat) (bs : List Byte) : ∀ (m : Memory) (a : Nat),
    Memory.storeList cap m a (bs.take (cap - a)) = Memory.storeList cap m a bs := by
  induction bs with
  | nil => exact fun m a => congrArg (Memory.storeList cap m a) List.take_nil
  | cons b bs ih =>
    intro m a
    by_cases ha : a < cap
    · rw [show cap - a = cap - (a + 1) + 1 by omega, List.take_succ_cons, Memory.storeList, ih, Memory.storeList]
    · have hrest := ih m (a + 1)
      rw [show cap - (a + 1) = 0 by omega] at hrest
      rw [show cap - a = 0 by omega, Memory.storeList, Memory.store_of_outside m b (by omega), ← hrest]
      rfl

/-- Whatever their number, the bytes stored from index 0 on are held as far as the capacity goes. -/
theorem holds_storeList_take {m : Memory} (cap : Nat) (bs : List Byte) (hm : m.wf = true) :
    Spec.Holds (Memory.storeList cap m 0 bs) m (bs.take cap) := by
  have hstore : Memory.storeList cap m 0 (bs.take cap) = Memory.storeList cap m 0 bs := Memory.storeList_take cap bs m 0
  exact hstore ▸ holds_storeList hm (List.length_take_le cap bs)

/-! ### Host writes while BUSY = 1 (R102, R204) -/

/-- Every write of the program is to an address other than CMD. -/
def AvoidsCmd (ws : List (HostAddr × Byte)) : Prop := ∀ w ∈ ws, w.1 ≠ addrCmd

theorem State.hostWrite_of_busy {s : State} {a : HostAddr} (v : Byte) (hb : s.busy = true) (ha : a ≠ addrCmd) :
    s.hostWrite a v = s := by
  rcases s.hostWrite_cases a v with ⟨hr, ho, -⟩ | ⟨-, -, e⟩ | ⟨-, hidle, -⟩
  · exact absurd (eq_addrCmd_of_region_offset hr ho) ha
  · exact e
  · simp [hb] at hidle

theorem State.hostWrites_of_busy {s : State} {ws : List (HostAddr × Byte)} (hb : s.busy = true) (hws : AvoidsCmd ws) :
    s.hostWrites ws = s := by
  induction ws with
  | nil => rfl
  | cons w ws ih =>
    obtain ⟨hw, hrest⟩ := List.forall_mem_cons.1 hws
    rw [State.hostWrites, State.hostWrite_of_busy w.2 hb hw]
    exact ih hrest

/-- A row that stands for a program without CMD: its own step only schedules the other writes, and these give the state
back. -/
theorem exec_hostProgram_of_busy {s : State} {i : Instr} {ws : List (HostAddr × Byte)} {n : Nat}
    (hexec : exec i s = .next (s.hostProgram ws)) (hlen : ws.length = n + 1) (hb : s.busy = true) (hws : AvoidsCmd ws) :
    ∃ t, exec i s = .next t ∧ t = { s with schedule := t.schedule } ∧ run n t = .next s := by
  obtain ⟨w, ws, rfl⟩ := List.exists_cons_of_length_eq_add_one hlen
  obtain rfl : ws.length = n := Nat.succ.inj hlen
  refine ⟨_, hexec, ?own, ?further⟩
  case own => rw [s.hostProgram_cons, State.hostWrite_of_busy w.2 hb (hws w List.mem_cons_self)]
  case further => rw [run_hostProgram, State.hostWrites_of_busy hb hws]

/-! ### The catalog's programs do not write CMD (R141 to R144) -/

theorem AvoidsCmd.append {ws vs : List (HostAddr × Byte)} (hws : AvoidsCmd ws) (hvs : AvoidsCmd vs) :
    AvoidsCmd (ws ++ vs) :=
  List.forall_mem_append.2 ⟨hws, hvs⟩

/-- Consecutive addresses from one above CMD on that do not wrap around. -/
theorem avoidsCmd_bufWrites (bs : List Byte) : ∀ {a : HostAddr}, 0 < a.toNat → a.toNat + bs.length < 262144 →
    AvoidsCmd (bufWrites a bs) := by
  induction bs with
  | nil => exact fun _ _ => List.forall_mem_nil _
  | cons b bs ih =>
    intro a hpos hlen
    rw [List.length_cons] at hlen
    have hne : a ≠ addrCmd := fun h => absurd hpos (h ▸ by decide)
    have hnext : (a + 1).toNat = a.toNat + 1 := by
      rw [BitVec.toNat_add, show (1 : HostAddr).toNat = 1 from rfl]
      omega
    exact List.forall_mem_cons.2 ⟨hne, ih (by omega) (by omega)⟩

theorem avoidsCmd_requestWrites (label : Byte) (size : U16) {p : List Byte} (hlen : p.length ≤ 65536) :
    AvoidsCmd (requestWrites label size p) := by
  have hlabel : addrTxLabel ≠ addrCmd := by decide
  have hsize := avoidsCmd_bufWrites [byteOf size 0, byteOf size 1] (by decide)
    (show addrTxSize.toNat + 2 < 262144 by decide)
  have hbuf := avoidsCmd_bufWrites p (by decide) (show addrTxbuf.toNat + p.length < 262144 by
    rw [show addrTxbuf.toNat = 65536 from rfl]; omega)
  exact .append (List.forall_mem_cons.2 ⟨hlabel, hsize⟩) hbuf

theorem avoidsCmd_replyWrites (label : Byte) (size : U16) {f : List Byte} (hlen : f.length ≤ 65536) :
    AvoidsCmd (replyWrites label size f) := by
  have hlabel : addrRxLabel ≠ addrCmd := by decide
  have hsize := avoidsCmd_bufWrites [byteOf size 0, byteOf size 1] (by decide)
    (show addrRxSize.toNat + 2 < 262144 by decide)
  have hbuf := avoidsCmd_bufWrites f (by decide) (show addrFbuf.toNat + f.length < 262144 by
    rw [show addrFbuf.toNat = 131072 from rfl]; omega)
  have hflen := avoidsCmd_bufWrites (bytesOf32 (BitVec.ofNat 32 f.length)) (by decide)
    (show addrFlen.toNat + 4 < 262144 by decide)
  exact .append (.append (List.forall_mem_cons.2 ⟨hlabel, hsize⟩) hbuf) hflen

theorem RequestRow.dropped_of_busy {i : Instr} {label : Byte} {size : U16} {p : List Byte} {s : State}
    (row : RequestRow i label size p) (hb : s.busy = true) :
    ∃ t, exec i s = .next t ∧ t = { s with schedule := t.schedule } ∧ run (p.length + 2) t = .next s :=
  exec_hostProgram_of_busy (row.exec_eq s) (length_requestWrites label size p) hb
    (avoidsCmd_requestWrites label size (row.length_eq ▸ size.isLt.le))

theorem ReplyRow.dropped_of_busy {i : Instr} {label : Byte} {size : U16} {p : List Byte} {s : State}
    (row : ReplyRow i label size p) (hb : s.busy = true) :
    ∃ t, exec i s = .next t ∧ t = { s with schedule := t.schedule } ∧ run (p.length + 11) t = .next s := by
  have hlen : (replyWrites label size (frame label size p)).length = p.length + 12 := by
    rw [length_replyWrites, length_frame]
  have hframe : (frame label size p).length ≤ 65536 :=
    (row.length_frame_le s.cfg).trans (Nat.add_le_add_right s.cfg.legal.2 5)
  exact exec_hostProgram_of_busy (row.exec_eq s) hlen hb (avoidsCmd_replyWrites label size hframe)

/-! ### The obligations -/

/-- Settles O41: no frame row's program writes CMD, and every other write is dropped. -/
theorem catalogFramesWhileBusyAreDropped : Obligations.CatalogFramesWhileBusyAreDropped := fun _ hb =>
  ⟨fun p => (RequestRow.parameters p).dropped_of_busy hb,
    fun a b c d r => (ReplyRow.parameters a b c d r).dropped_of_busy hb,
    RequestRow.serialNumber.dropped_of_busy hb, fun a b c d => (ReplyRow.serialNumber a b c d).dropped_of_busy hb⟩

/-- Settles O43: the turn runs the RESET event, whose draw the buffers hold up to their capacities. -/
theorem resetEventSetsEveryRegister : Obligations.ResetEventSetsEveryRegister := by
  intro s d rest hsched
  obtain ⟨-, -, hreset, -⟩ := stepRunsTheScheduledTurn s rest
  exact ⟨_, _, hreset d hsched, holds_storeList_take s.cfg.maxPayload d.txbuf,
    holds_storeList_take s.cfg.maxFrame d.fbuf⟩

/-- Settles O16: any address but CMD drops the write, and CMD rejects it. -/
theorem writesWhileBusyAreDropped : Obligations.WritesWhileBusyAreDropped := by
  intro s addr v hb
  refine ⟨fun h0 => ?other, ?cmd⟩
  case other =>
    have hne : addr ≠ addrCmd := fun h => h0 (congrArg BitVec.toNat h)
    rw [exec_wr8, State.hostWrite_of_busy v hb hne]
  case cmd => rw [exec_wr8_cmd, State.cmdWrite_of_busy v hb, State.reject]

end Sys2Proof.Machine
